-- ==== Sys2Proof/Word.lean ====
section
/-! DEFINITION. Bytes, and tables of a fixed number of like things (banks, requesters, windows, slots). -/

namespace Sys2Proof

/-- A byte of a frame, a tag, a sequence number or a credit: values the manual keeps modulo 256. -/
abbrev Byte := BitVec 8

/-- A bank of the array, 0 to 15 (R1). -/
abbrev BankNo := Fin 16

/-- A requester, 0 to 15 (R42). -/
abbrev ReqNo := Fin 16

/-- `n` like things, numbered 0 to n − 1. -/
structure Table (n : Nat) (α : Type) where
  rows : List α
  len : rows.length = n
deriving DecidableEq, Repr

/-- `n` copies of one value. -/
def Table.fill (n : Nat) {α : Type} (a : α) : Table n α := ⟨List.replicate n a, by simp⟩

/-- The table of a function of the number. -/
def Table.ofFn {n : Nat} {α : Type} (f : Fin n → α) : Table n α := ⟨List.ofFn f, by simp⟩

/-- The thing numbered `i`. -/
def Table.get {n : Nat} {α : Type} (t : Table n α) (i : Fin n) : α := t.rows[i.val]'(by rw [t.len]; exact i.2)

/-- The table with the thing numbered `i` replaced. -/
def Table.set {n : Nat} {α : Type} (t : Table n α) (i : Fin n) (a : α) : Table n α :=
  ⟨t.rows.set i.val a, by simp [t.len]⟩

/-- The table with `f` applied to every thing and its number. -/
def Table.mapIdx {n : Nat} {α β : Type} (t : Table n α) (f : Fin n → α → β) : Table n β :=
  Table.ofFn fun i => f i (t.get i)

/-- The first number, counted from 0, whose thing satisfies `p`. -/
def Table.findIdx? {n : Nat} {α : Type} (t : Table n α) (p : α → Bool) : Option (Fin n) :=
  (List.finRange n).find? fun i => p (t.get i)

/-- How many things satisfy `p`. -/
def Table.count {n : Nat} {α : Type} (t : Table n α) (p : α → Bool) : Nat :=
  (List.finRange n).countP fun i => p (t.get i)

end Sys2Proof
end

