-- ==== Sys2Proof/Syntax.lean ====
section
/-! DEFINITION. The commands: one constructor per row of spec/opcode_table.json. -/

namespace Sys2Proof

/-- What a disturbance of the array's medium does to one stored chunk (log 7). -/
inductive UpsetKind where
  /-- one bit of the stored chunk turns over: bits 0 to 255 are the data's, higher ones the check code's -/
  | oneBit (pos : Nat)
  /-- the stored chunk becomes any other data, which its check code does not agree with -/
  | anyBits (data : List Byte)
deriving DecidableEq, Repr

/-- A disturbance of one chunk of an accessed block, found at the access (log 7). -/
structure Upset where
  /-- position of the chunk in its block -/
  chunk : Nat
  kind : UpsetKind
deriving DecidableEq, Repr

/-- The commands, in the order of spec/opcode_table.json. A frame operand is the frame's bytes on the lane (R191). -/
inductive Instr where
  | resetNAssert
  | resetNRelease
  | laneSignalPresent
  | signalLoss
  | badCheckFrame (bytes : List Byte)
  | inboundSequencedFrame (bytes : List Byte)
  | hostAck (bytes : List Byte)
  | hostReplay (bytes : List Byte)
  | hostTrain (bytes : List Byte)
  | ackTimerExpiry
  | replayMarkTimerExpiry
  | holdTimerExpiry
  | offerTimerExpiry
  | trainingTimeout
  | recoveryTimeout
  | transmitSelect
  | read
  | write
  | maskedWrite
  | cancel
  | manageFrame
  | get
  | set
  | setNoticeSettings
  | commit
  | discard
  | enterRetain
  | leaveRetain
  | resetPart
  | lapseClear
  | clear
  | tInitExpiry
  | tExitExpiry
  | tOaExpiry (bank : BankNo)
  | tDwellExpiry (bank : BankNo)
  | accessCompletion (bank : BankNo) (upsets : List Upset)
  | tWrecExpiry (bank : BankNo)
  | tCloseExpiry (bank : BankNo)
  | tRenExpiry (bank : BankNo)
  | idleCloseExpiry (bank : BankNo)
  | tOoPassed
  | tQuadPassed
  | tTurnPassed
  | tick
  | unknownOperation
deriving DecidableEq, Repr

end Sys2Proof
end

