-- ==== Sys2Proof/Config.lean ====
section
/-! DEFINITION. What an implementation fixes and what the manual leaves open: constants without a body. -/

namespace Sys2Proof

/-- Byte `j` of free value number `n`: a byte the manual leaves open (a chunk whose contents are not guaranteed, R24,
R39, R108; an echoed field that a short frame does not carry, R193). Log 6, 14. -/
opaque Config.freeByte : Nat → Nat → Byte

/-- How the check code of free chunk number `n` stands to its data (R24: "any of the four check results"). Log 6. -/
opaque Config.freeCheck : Nat → BitVec 2

/-- Which bit of free chunk number `n` is in error where its check code shows a single-bit error. Log 6. -/
opaque Config.freeErrorBit : Nat → Nat

/-- The poison mark of free chunk number `n`. Log 6. -/
opaque Config.freePoison : Nat → Bool

/-- The revision byte of IDENT (R194), which the manual does not give. Log 15. -/
opaque Config.revision : Byte

end Sys2Proof
end

