-- ==== Sys2Proof/Machine/State.lean ====
section
/-! DEFINITION. The state of the part: plain data, one record per block of 00_scope, and its value right after reset. -/

namespace Sys2Proof.Machine

/-! ### names of the manual -/

/-- A block of 1, 2, 4 or 8 chunks (R1). -/
inductive BlockSize where | c1 | c2 | c4 | c8
deriving DecidableEq, Repr

/-- Number of chunks of a block. -/
def BlockSize.chunks : BlockSize → Nat
  | .c1 => 1 | .c2 => 2 | .c4 => 4 | .c8 => 8

inductive ReqKind where | read | write | masked
deriving DecidableEq, Repr

inductive Priority where | normal | expedited
deriving DecidableEq, Repr

inductive ReturnOrder where | linear | leadFirst
deriving DecidableEq, Repr

inductive OrderMode where | ordered | unordered
deriving DecidableEq, Repr

inductive AckPoint where | commit | admission
deriving DecidableEq, Repr

inductive PagePolicy where | keepOpen | closeAfter
deriving DecidableEq, Repr

inductive ContentClass where | retained | discardable
deriving DecidableEq, Repr

inductive MapMode where | bankFirst | pageFirst
deriving DecidableEq, Repr

inductive StartKind where | cold | warm
deriving DecidableEq, Repr

/-- Check result of one chunk (R26). -/
inductive CheckResult where | clean | corrected | uncorrectable | poisoned
deriving DecidableEq, Repr

/-- Status of a DATA frame (R116). -/
inductive DataStatus where | ok | suspect | poisoned
deriving DecidableEq, Repr

/-- Completion result of a write or merge, and status of a DONE frame (R119). -/
inductive DoneStatus where | ok | poisoned
deriving DecidableEq, Repr

/-- Reasons of a REFUSE (R50; section 11.3). -/
inductive RefuseReason where
  | notReady | retained | malformed | requesterOff | noWindow | denied | tagInUse | quota | full | noWriteSlot
deriving DecidableEq, Repr

inductive CancelResult where | tooLate | unknown
deriving DecidableEq, Repr

/-- Statuses of a MANAGE-REPLY (R155). -/
inductive MStatus where
  | ok | unknownObject | readOnly | badValue | denied | busy | notReady | invalid | already | abandoned
deriving DecidableEq, Repr

/-- Checks of COMMIT validation (R162). -/
inductive CommitCheck where
  | none | timingRange | timingDwell | timingQuad | windowAlign | windowFit | windowOverlap | noManager
deriving DecidableEq, Repr

inductive RecoveryCause where | ackTimeout | replayRange | ackRange | signalLoss
deriving DecidableEq, Repr

inductive ProtocolCause where | noSlot | unknownKind
deriving DecidableEq, Repr

/-- A fault report with the fields of its kind (R183). -/
inductive Report where
  | renewalOverrun (bank : BankNo)
  | uncorrectableData (bank : BankNo) (page chunk : Nat) (requester : ReqNo) (tag : Byte)
  | correctedData (bank : BankNo) (page chunk : Nat)
  | mergePoison (bank : BankNo) (page chunk : Nat)
  | linkRecovery (cause : RecoveryCause)
  | linkProtocol (cause : ProtocolCause)
  | sessionLost (session : Byte)
  | started (kind : StartKind)
deriving DecidableEq, Repr

/-- A notice record (R187, section 10.4). -/
structure Notice where
  number : Byte
  report : Report
  dropped : Nat
deriving DecidableEq, Repr

/-- The fields of a management request that its reply echoes as received (R155). -/
structure Echo where
  requester : Byte
  mtag : Byte
  op : Byte
  object : Byte
  index : Byte
deriving DecidableEq, Repr

/-- A sequenced frame the part sends (section 11.3). -/
inductive OutFrame where
  | data (requester : ReqNo) (tag : Byte) (status : DataStatus) (size : BlockSize) (order : ReturnOrder) (lead : Nat)
      (bad : List Nat) (payload : List Byte)
  | done (requester : ReqNo) (tag : Byte) (status : DoneStatus)
  | void (requester : ReqNo) (tag : Byte)
  | refuse (requester tag kind : Byte) (reason : RefuseReason)
  | cancelReply (requester tag : Byte) (result : CancelResult)
  | manageReply (echo : Echo) (status : MStatus) (check : CommitCheck) (checkIndex : Nat) (value : List Byte)
  | notice (destination : ReqNo) (record : Notice)
deriving DecidableEq, Repr

/-! ### link controller (chapter 7) -/

inductive LinkState where | down | training | up | recovery
deriving DecidableEq, Repr

inductive TrainMode where | new | resume
deriving DecidableEq, Repr

inductive ReplyTurn where | refuse | cancelReply
deriving DecidableEq, Repr

/-- An accepted inbound frame in its receive slot: the kind that binds it and its body (R139, R147). -/
structure RxFrame where
  kind : Byte
  body : List Byte
deriving DecidableEq, Repr

/-- A TRAIN answer, formed in the event that takes the host TRAIN (R134). -/
structure TrainAnswer where
  mode : TrainMode
  session : Byte
  expect : Byte
deriving DecidableEq, Repr

/-- The link controller's state (R130, table of section 7.1). A timer is absent when STOPPED, and holds the instant of
its expiry when RUNNING. -/
structure Link where
  state : LinkState
  session : Byte
  live : Bool
  expect : Byte
  nextSeq : Byte
  rx : List RxFrame
  ring : List OutFrame
  resend : Option Byte
  sendLimit : Byte
  expiries : Nat
  replayMark : Option Byte
  updateOwed : Bool
  ackTimer : Option Nat
  markTimer : Option Nat
  holdTimer : Option Nat
  offerTimer : Option Nat
  stateTimer : Option Nat
  rr : ReqNo
  replyTurn : ReplyTurn
  answers : List TrainAnswer
  offers : Nat
  replays : List Byte
deriving DecidableEq, Repr

/-- R130: the link controller after any reset. -/
def Link.reset : Link where
  state := .down
  session := 0
  live := false
  expect := 0
  nextSeq := 0
  rx := []
  ring := []
  resend := none
  sendLimit := 0
  expiries := 0
  replayMark := none
  updateOwed := false
  ackTimer := none
  markTimer := none
  holdTimer := none
  offerTimer := none
  stateTimer := none
  rr := 0
  replyTurn := .refuse
  answers := []
  offers := 0
  replays := []

/-! ### admission unit (chapter 3) -/

/-- An occupied write slot (R56): the block's data bytes, one enable per data byte, the owning entry. -/
structure WriteSlot where
  data : List Byte
  enables : List Bool
  owner : Nat
deriving DecidableEq, Repr

structure Admission where
  tags : Table 16 (List Byte)
  slots : Table 32 (Option WriteSlot)
  replyHold : Option OutFrame
deriving DecidableEq, Repr

/-- R65: the admission unit after any reset. -/
def Admission.reset : Admission where
  tags := Table.fill 16 []
  slots := Table.fill 32 none
  replyHold := none

/-! ### request scheduler (chapter 4) -/

inductive EntryState where | waiting | issued
deriving DecidableEq, Repr

/-- A pending entry (R58). `id` tells entries apart; blocked-by names an entry by its `id` (log 24). -/
structure Entry where
  id : Nat
  requester : ReqNo
  tag : Byte
  tagHeld : Bool
  kind : ReqKind
  bank : BankNo
  page : Nat
  first : Nat
  size : BlockSize
  lead : Option Nat
  returnOrder : ReturnOrder
  priority : Priority
  policy : PagePolicy
  writeSlot : Option (Fin 32)
  respSlot : Option (Fin 32)
  blockedBy : Option Nat
  bypass : Nat
  overdue : Bool
  state : EntryState
deriving DecidableEq, Repr

/-- An idle-close timer (R77). -/
inductive IdleTimer where
  | stopped
  | running (until_ : Nat)
  | expired
deriving DecidableEq, Repr

structure Sched where
  list : List Entry
  idle : Table 16 IdleTimer
  closeAfter : Table 16 Bool
  cancelHold : Option OutFrame
  nextId : Nat
deriving DecidableEq, Repr

/-- R94: the request scheduler after any reset. -/
def Sched.reset : Sched where
  list := []
  idle := Table.fill 16 .stopped
  closeAfter := Table.fill 16 false
  cancelHold := none
  nextId := 0

/-! ### array port (chapter 1) -/

inductive BankState where | closed | opening | opened | accessing | closing | renewing | held
deriving DecidableEq, Repr

inductive AccessKind where | read | write | merge
deriving DecidableEq, Repr

inductive Direction where | noDir | read | write
deriving DecidableEq, Repr

inductive PortMode where | init | run | halting | halted | held | waking
deriving DecidableEq, Repr

/-- How a stored check code stands to the stored data (R26; log 5). -/
inductive Check where
  /-- the check code agrees with the data -/
  | agrees
  /-- it shows a single-bit error, at bit `pos`: 0 to 255 in the data, higher in the code -/
  | oneBit (pos : Nat)
  /-- it shows any other disagreement -/
  | broken
deriving DecidableEq, Repr

/-- A stored chunk (R1). -/
structure Chunk where
  data : List Byte
  check : Check
  poison : Bool
deriving DecidableEq, Repr

/-- A bank record (R3) with the bank's interval timers (section 1.3). -/
structure Bank where
  state : BankState
  openPage : Option Nat
  dwellMet : Bool
  recoveryMet : Bool
  access : Option AccessKind
  tOa : Option Nat
  tDwell : Option Nat
  tAccess : Option Nat
  tClose : Option Nat
  tWrec : Option Nat
  tRen : Option Nat
  /-- the old chunks of the block of the merge in progress, by position, as read at its start (R27; log 8): none where the
  contents were not guaranteed then; empty where no merge is in progress -/
  oldChunks : List (Option Chunk)
deriving DecidableEq, Repr

/-- R3, R10: a bank with no operation, in the state given (CLOSED or HELD). -/
def Bank.idle (st : BankState) : Bank where
  state := st
  openPage := none
  dwellMet := true
  recoveryMet := true
  access := none
  tOa := none
  tDwell := none
  tAccess := none
  tClose := none
  tWrec := none
  tRen := none
  oldChunks := []

structure Port where
  mode : PortMode
  banks : Table 16 Bank
  history : List Nat
  direction : Direction
  lastAccess : Option Nat
  commitHalt : Bool
  drainHalt : Bool
  holdReq : Bool
  tInit : Option Nat
  tExit : Option Nat
deriving DecidableEq, Repr

/-- R24: the array port at a reset, before the end of the reset starts T_INIT (cold) or issues the wake (warm). -/
def Port.reset (kind : StartKind) : Port where
  mode := match kind with | .cold => .init | .warm => .held
  banks := Table.fill 16 (Bank.idle (match kind with | .cold => .closed | .warm => .held))
  history := []
  direction := .noDir
  lastAccess := none
  commitHalt := false
  drainHalt := false
  holdReq := false
  tInit := none
  tExit := none

/-- The array's stored chunks by stored chunk number, numbers strictly rising; a chunk not listed is one whose contents
are not guaranteed (R24, R39, R108; log 6). -/
abbrev Store := List (Nat × Chunk)

/-! ### renewal unit (chapter 5) -/

/-- A renewal record (R96). -/
structure Renewal where
  debt : Int
  exempt : Bool
  lapse : Bool
deriving DecidableEq, Repr

/-- The tick timer while RUNNING (R97): the instant of the next tick and the period it started with. -/
structure TickTimer where
  at_ : Nat
  period : Nat
deriving DecidableEq, Repr

structure RenewalUnit where
  records : Table 16 Renewal
  tick : Option TickTimer
deriving DecidableEq, Repr

/-- R110: the renewal unit after any reset. -/
def RenewalUnit.reset : RenewalUnit where
  records := Table.fill 16 { debt := 0, exempt := false, lapse := false }
  tick := none

/-! ### response unit (chapter 6) -/

/-- What a response slot records at its reservation (R113). -/
structure SlotOwner where
  requester : ReqNo
  tag : Byte
  size : BlockSize
  order : ReturnOrder
  lead : Nat
deriving DecidableEq, Repr

/-- A response slot (R112). Data in block order. -/
inductive RespSlot where
  | free
  | reserved (owner : SlotOwner) (discard : Bool)
  | filled (owner : SlotOwner) (data : List Byte) (results : List CheckResult) (lapse : Bool)
deriving DecidableEq, Repr

/-- A place's state: OWED, or READY with its frame (section 6.3). -/
inductive PlaceState where
  | owed
  | data (status : DataStatus) (slot : Fin 32) (bad : List Nat)
  | done (status : DoneStatus)
  | void
deriving DecidableEq, Repr

structure Place where
  tag : Byte
  mode : OrderMode
  state : PlaceState
deriving DecidableEq, Repr

structure Response where
  slots : Table 32 RespSlot
  orders : Table 16 (List Place)
deriving DecidableEq, Repr

/-- R128: the response unit after any reset. -/
def Response.reset : Response where
  slots := Table.fill 32 .free
  orders := Table.fill 16 []

/-! ### management unit (chapters 2, 8, 9, 10) -/

/-- The timing profile (section 1.5); intervals in the units of its table. -/
structure Timing where
  tOa : Nat
  tDwell : Nat
  tClose : Nat
  tWrec : Nat
  tRd : Nat
  tWr : Nat
  tRen : Nat
  tOo : Nat
  tQuad : Nat
  tTurn : Nat
  tExit : Nat
  renewalInterval : Nat
  renewalRate : Nat
  urgentLevel : Nat
  idleClose : Nat
  mapMode : MapMode
deriving DecidableEq, Repr

/-- R16: the DEFAULT column of section 1.5. -/
def Timing.reset : Timing where
  tOa := 30
  tDwell := 60
  tClose := 30
  tWrec := 30
  tRd := 20
  tWr := 20
  tRen := 200
  tOo := 15
  tQuad := 60
  tTurn := 10
  tExit := 250
  renewalInterval := 32
  renewalRate := 1
  urgentLevel := 6
  idleClose := 50
  mapMode := .bankFirst

/-- A window entry (section 2.1); bases in MiB, the size 2^sizeExp MiB, a set's bit n for requester n. -/
structure Window where
  valid : Bool
  logicalBase : Nat
  sizeExp : Nat
  physicalBase : Nat
  readSet : BitVec 16
  writeSet : BitVec 16
  policy : PagePolicy
  content : ContentClass
deriving DecidableEq, Repr

/-- R32: the reset window entry. -/
def Window.reset : Window where
  valid := false
  logicalBase := 0
  sizeExp := 0
  physicalBase := 0
  readSet := 0
  writeSet := 0
  policy := .keepOpen
  content := .retained

/-- A requester entry (section 2.3). -/
structure Requester where
  enabled : Bool
  manager : Bool
  quota : Nat
  order : OrderMode
  ackPoint : AckPoint
  returnOrder : ReturnOrder
  ageLimit : Nat
deriving DecidableEq, Repr

/-- R42: the reset requester entries; requester 0 differs from the others. -/
def Requester.reset (r : ReqNo) : Requester where
  enabled := r = 0
  manager := r = 0
  quota := if r = 0 then 16 else 0
  order := if r = 0 then .ordered else .unordered
  ackPoint := .commit
  returnOrder := .linear
  ageLimit := 16

/-- LINK-SETTINGS (R130), in µs. -/
structure LinkSettings where
  ackTimeout : Nat
  holdTime : Nat
deriving DecidableEq, Repr

/-- One copy of every staged object (R158). -/
structure Objects where
  timing : Timing
  windows : Table 32 Window
  requesters : Table 16 Requester
  link : LinkSettings
deriving DecidableEq, Repr

/-- R158: the reset values of every staged object. -/
def Objects.reset : Objects where
  timing := Timing.reset
  windows := Table.fill 32 Window.reset
  requesters := Table.ofFn Requester.reset
  link := { ackTimeout := 20, holdTime := 1000 }

/-- NOTICE-SETTINGS (R186): bit c − 1 of `enables` is the enable of notice kind code c. -/
structure NoticeSettings where
  destination : ReqNo
  enables : Byte
deriving DecidableEq, Repr

inductive CommitState where | none | listWait | haltWait
deriving DecidableEq, Repr

/-- The reply a commit in progress owes (section 8.3). -/
inductive ReplyOwed where
  | owed (echo : Echo)
  | dropped
deriving DecidableEq, Repr

structure CommitRecord where
  state : CommitState
  mapChange : Bool
  replyOwed : Option ReplyOwed
deriving DecidableEq, Repr

def CommitRecord.reset : CommitRecord where
  state := .none
  mapChange := false
  replyOwed := none

inductive CommitResult where | none | ok | invalid
deriving DecidableEq, Repr

/-- COMMIT-STATUS (R168), but for the commit state, which the commit record holds. -/
structure CommitStatus where
  lastResult : CommitResult
  check : CommitCheck
  checkIndex : Nat
  stagedDiffers : Bool
  epoch : Nat
deriving DecidableEq, Repr

def CommitStatus.reset : CommitStatus where
  lastResult := .none
  check := .none
  checkIndex := 0
  stagedDiffers := false
  epoch := 0

inductive PartState where | starting | serving | draining | retained | resuming
deriving DecidableEq, Repr

inductive DrainStage where | list | halt | hold
deriving DecidableEq, Repr

/-- The part state machine (chapter 9). -/
structure Part where
  state : PartState
  stage : Option DrainStage
  retainOwed : Option Echo
  lastStart : StartKind
deriving DecidableEq, Repr

/-- The busy hold's frame (R153), and how many frames of the reply list were formed before it (R155). -/
structure BusyReply where
  frame : OutFrame
  ahead : Nat
deriving DecidableEq, Repr

structure Mgmt where
  queue : List (List Byte)
  replies : List OutFrame
  busyHold : Option BusyReply
  active : Objects
  staged : Objects
  notice : NoticeSettings
  commit : CommitRecord
  status : CommitStatus
  part : Part
  resetTaken : Bool
  counters : Table 11 Nat
  notices : List Notice
  nextNotice : Byte
  dropped : Nat
deriving DecidableEq, Repr

/-- R153, R158, R167, R168, R184, R186, R190: the management unit at a reset, before the STARTED report; the part state
machine as given, since R172 changes it at the end of the reset (log 4). -/
def Mgmt.reset (part : Part) : Mgmt where
  queue := []
  replies := []
  busyHold := none
  active := Objects.reset
  staged := Objects.reset
  notice := { destination := 0, enables := 0xFB }
  commit := CommitRecord.reset
  status := CommitStatus.reset
  part := part
  resetTaken := false
  counters := Table.fill 11 0
  notices := []
  nextNotice := 0
  dropped := 0

/-! ### the part -/

/-- The state of the part and of the array at its port. -/
structure State where
  /-- the commands that wait, first in first out -/
  pending : List Instr
  /-- the clock, in ns (log 2) -/
  now : Nat
  /-- how many free values have been used (log 6) -/
  draws : Nat
  /-- RESET_N asserted, with the start kind decided at its assertion (R172) -/
  rst : Option StartKind
  /-- presence of the lane signal (R131) -/
  laneSignal : Bool
  /-- the frame most recently sent on the lane; a reset leaves it (log 20) -/
  txLane : Option (List Byte)
  link : Link
  adm : Admission
  sched : Sched
  port : Port
  array : Store
  ren : RenewalUnit
  resp : Response
  mgmt : Mgmt
deriving DecidableEq, Repr

/-- R183: "No fault halts the part". The machine stops with no fault, so this has no constructor: fault reports of
chapter 10 are counted and queued in State. -/
inductive Fault where
deriving DecidableEq, Repr

/-- Why a command has no meaning. -/
inductive Refusal where
  /-- raised by exec's arm of a command the model has not reached; safe -/
  | notModelled (mnemonic : String)
deriving DecidableEq, Repr

/-- The machine right after reset: the end of a cold start (R172, R24, R190), the first power-up's kind, with T_INIT
running (200 µs from the end of the reset, R18), the STARTED record queued, and the lane signal absent (log 3). -/
def State.reset : State where
  pending := []
  now := 0
  draws := 0
  rst := none
  laneSignal := false
  txLane := none
  link := Link.reset
  adm := Admission.reset
  sched := Sched.reset
  port := { Port.reset .cold with tInit := some 200000 }
  array := []
  ren := RenewalUnit.reset
  resp := Response.reset
  mgmt :=
    { Mgmt.reset { state := .starting, stage := none, retainOwed := none, lastStart := .cold } with
      counters := (Table.fill 11 0).set 7 1
      notices := [{ number := 0, report := .started .cold, dropped := 0 }]
      nextNotice := 1 }

end Sys2Proof.Machine
end

