-- ==== Sys2Proof/Machine/Codec.lean ====
section
/-! DEFINITION. Bytes on the lane: byte order, frame check, frame layouts, field codes and object values (chapter 11). -/

namespace Sys2Proof.Machine

/-! ### byte order (chapter 11: most significant byte first) -/

/-- A byte of a number. -/
def byteOf (n : Nat) : Byte := BitVec.ofNat 8 n

/-- A 16-bit field. -/
def u16 (n : Nat) : List Byte := [byteOf (n / 256), byteOf n]

/-- A 24-bit field. -/
def u24 (n : Nat) : List Byte := [byteOf (n / 65536), byteOf (n / 256), byteOf n]

/-- The number a field of bytes carries, most significant byte first. -/
def natOfBytes (bs : List Byte) : Nat := bs.foldl (fun acc b => acc * 256 + b.toNat) 0

/-- `len` bytes of a value from byte `i` on, as a number. -/
def fieldAt (v : List Byte) (i len : Nat) : Nat := natOfBytes ((v.drop i).take len)

/-- A yes/no field (R194). -/
def boolByte (b : Bool) : Byte := if b then 1 else 0

/-- The bits of a byte, least significant first (section 11.2, note 1). -/
def bitsOf (b : Byte) : List Bool := (List.range 8).map b.getLsbD

/-! ### frame check (R192) -/

/-- One bit of the string: shift, and combine with the generator where the bit shifted out differs from it. -/
def crcBit (r : BitVec 32) (bit : Bool) : BitVec 32 :=
  if r.msb != bit then (r <<< 1) ^^^ 0x04C11DB7#32 else r <<< 1

/-- One byte, from its most significant bit to its least. -/
def crcByte (r : BitVec 32) (b : Byte) : BitVec 32 :=
  [7, 6, 5, 4, 3, 2, 1, 0].foldl (fun r i => crcBit r (b.getLsbD i)) r

/-- R192: the frame check of a string of bytes. -/
def frameCheck (bytes : List Byte) : BitVec 32 := ~~~ (bytes.foldl crcByte 0xFFFFFFFF#32)

/-- R192: the check's four bytes, most significant first. -/
def checkBytes (bytes : List Byte) : List Byte :=
  let c := frameCheck bytes
  [c.extractLsb' 24 8, c.extractLsb' 16 8, c.extractLsb' 8 8, c.extractLsb' 0 8]

/-! ### frames (R191) -/

/-- A frame whose check is good, with the fields of section 11.1. -/
structure Frame where
  kind : Byte
  seq : Byte
  ack : Byte
  credit : Byte
  body : List Byte
deriving DecidableEq, Repr

/-- R191, R192: the bytes of a frame on the lane. -/
def Frame.bytes (f : Frame) : List Byte :=
  let head := f.kind :: f.seq :: f.ack :: f.credit :: f.body
  head ++ checkBytes head

/-- R192: a received frame, or none where its check fails; under 8 or over 320 bytes it fails without a computation. -/
def parseFrame (bytes : List Byte) : Option Frame :=
  if bytes.length < 8 ∨ 320 < bytes.length then none
  else
    let head := bytes.take (bytes.length - 4)
    if bytes.drop (bytes.length - 4) = checkBytes head then
      match head with
      | k :: s :: a :: c :: body => some { kind := k, seq := s, ack := a, credit := c, body := body }
      | _ => none
    else none

def kindRead : Byte := 0x10
def kindWrite : Byte := 0x11
def kindMaskedWrite : Byte := 0x12
def kindCancel : Byte := 0x18
def kindManage : Byte := 0x20
def kindData : Byte := 0x40
def kindDone : Byte := 0x41
def kindVoid : Byte := 0x42
def kindRefuse : Byte := 0x43
def kindCancelReply : Byte := 0x44
def kindManageReply : Byte := 0x48
def kindNotice : Byte := 0x50
def kindAck : Byte := 0x70
def kindReplay : Byte := 0x71
def kindTrain : Byte := 0x72

/-- Section 11.1: ACK, REPLAY and TRAIN are the control frames; every other kind is sequenced (R138). -/
def isControl (k : Byte) : Bool := k = kindAck || k = kindReplay || k = kindTrain

/-- The kind of a data request frame, if it is one. -/
def dataKind (k : Byte) : Option ReqKind :=
  if k = kindRead then some .read
  else if k = kindWrite then some .write
  else if k = kindMaskedWrite then some .masked
  else none

/-- R147: the kinds that the dispatcher has a destination for. -/
def hasDestination (k : Byte) : Bool := (dataKind k).isSome || k = kindCancel || k = kindManage

/-! ### codes of sections 11.2 and 11.3 -/

def BlockSize.code : BlockSize → Byte
  | .c1 => 0 | .c2 => 1 | .c4 => 2 | .c8 => 3

def sizeOfCode (b : Byte) : Option BlockSize :=
  if b = 0 then some .c1 else if b = 1 then some .c2 else if b = 2 then some .c4 else if b = 3 then some .c8 else none

def priorityOfCode (b : Byte) : Option Priority :=
  if b = 0 then some .normal else if b = 1 then some .expedited else none

def ReturnOrder.code : ReturnOrder → Byte
  | .linear => 0 | .leadFirst => 1

def DataStatus.code : DataStatus → Byte
  | .ok => 0 | .suspect => 1 | .poisoned => 2

def DoneStatus.code : DoneStatus → Byte
  | .ok => 0 | .poisoned => 2

/-- The VOID status CANCELLED. -/
def cancelledCode : Byte := 3

def RefuseReason.code : RefuseReason → Byte
  | .notReady => 1 | .retained => 2 | .malformed => 3 | .requesterOff => 4 | .noWindow => 5 | .denied => 6
  | .tagInUse => 7 | .quota => 8 | .full => 9 | .noWriteSlot => 10

def CancelResult.code : CancelResult → Byte
  | .tooLate => 1 | .unknown => 2

def MStatus.code : MStatus → Byte
  | .ok => 0 | .unknownObject => 1 | .readOnly => 2 | .badValue => 3 | .denied => 4 | .busy => 5 | .notReady => 6
  | .invalid => 7 | .already => 8 | .abandoned => 9

def CommitCheck.code : CommitCheck → Byte
  | .none => 0 | .timingRange => 1 | .timingDwell => 2 | .timingQuad => 3 | .windowAlign => 4 | .windowFit => 5
  | .windowOverlap => 6 | .noManager => 7

def RecoveryCause.code : RecoveryCause → Byte
  | .ackTimeout => 1 | .replayRange => 2 | .ackRange => 3 | .signalLoss => 4

def ProtocolCause.code : ProtocolCause → Byte
  | .noSlot => 1 | .unknownKind => 2

def StartKind.code : StartKind → Byte
  | .cold => 0 | .warm => 1

def LinkState.code : LinkState → Byte
  | .down => 0 | .training => 1 | .up => 2 | .recovery => 3

def PartState.code : PartState → Byte
  | .starting => 0 | .serving => 1 | .draining => 2 | .retained => 3 | .resuming => 4

def PortMode.code : PortMode → Byte
  | .init => 0 | .run => 1 | .halting => 2 | .halted => 3 | .held => 4 | .waking => 5

def CommitResult.code : CommitResult → Byte
  | .none => 0 | .ok => 1 | .invalid => 2

def CommitState.code : CommitState → Byte
  | .none => 0 | .listWait => 1 | .haltWait => 2

def MapMode.code : MapMode → Byte
  | .bankFirst => 0 | .pageFirst => 1

def PagePolicy.code : PagePolicy → Byte
  | .keepOpen => 0 | .closeAfter => 1

def ContentClass.code : ContentClass → Byte
  | .retained => 0 | .discardable => 1

def OrderMode.code : OrderMode → Byte
  | .ordered => 0 | .unordered => 1

def AckPoint.code : AckPoint → Byte
  | .commit => 0 | .admission => 1

/-- The counter of a report's kind (R184); its notice kind code is one more (section 11.3). -/
def Report.counter : Report → Fin 11
  | .renewalOverrun _ => 0
  | .uncorrectableData .. => 1
  | .correctedData .. => 2
  | .mergePoison .. => 3
  | .linkRecovery _ => 4
  | .linkProtocol _ => 5
  | .sessionLost _ => 6
  | .started _ => 7

/-- The notice kind code (section 11.3). -/
def Report.code (r : Report) : Byte := byteOf (r.counter.val + 1)

/-- The field bytes of a notice (section 11.3, notice fields). -/
def Report.fields : Report → List Byte
  | .renewalOverrun b => [byteOf b.val]
  | .uncorrectableData b p c r t => byteOf b.val :: u16 p ++ [byteOf c, byteOf r.val, t]
  | .correctedData b p c => byteOf b.val :: u16 p ++ [byteOf c]
  | .mergePoison b p c => byteOf b.val :: u16 p ++ [byteOf c]
  | .linkRecovery cause => [cause.code]
  | .linkProtocol cause => [cause.code]
  | .sessionLost n => [n]
  | .started k => [k.code]

/-- Section 11.3, note 2: the bad-chunk mask, bit p for frame position p. -/
def badMask (bad : List Nat) : Byte := bad.foldl (fun m p => m ||| (1#8 <<< p)) 0

/-- Section 11.1: the kind code of a frame the part sends. -/
def OutFrame.kind : OutFrame → Byte
  | .data .. => kindData
  | .done .. => kindDone
  | .void .. => kindVoid
  | .refuse .. => kindRefuse
  | .cancelReply .. => kindCancelReply
  | .manageReply .. => kindManageReply
  | .notice .. => kindNotice

/-- Section 11.3: the body of a frame the part sends. -/
def OutFrame.body : OutFrame → List Byte
  | .data r t st sz o l bad payload =>
      [byteOf r.val, t, st.code, sz.code, o.code, byteOf l, badMask bad] ++ payload
  | .done r t st => [byteOf r.val, t, st.code]
  | .void r t => [byteOf r.val, t, cancelledCode]
  | .refuse r t k reason => [r, t, k, reason.code]
  | .cancelReply r t res => [r, t, res.code]
  | .manageReply e st ck ix v =>
      [e.requester, e.mtag, e.op, e.object, e.index, st.code, ck.code, byteOf ix, byteOf v.length] ++ v
  | .notice d n => [byteOf d.val, n.number, n.report.code, byteOf n.dropped] ++ n.report.fields

/-! ### data requests (section 11.2) -/

/-- The fields of a well-formed data request. -/
structure DataReq where
  requester : ReqNo
  tag : Byte
  address : Nat
  size : BlockSize
  priority : Priority
  data : List Byte
  enables : List Bool
deriving DecidableEq, Repr

/-- Bytes of data and of enables that a request of a kind carries (R51). -/
def reqDataLen (k : ReqKind) (sz : BlockSize) : Nat :=
  match k with | .read => 0 | _ => sz.chunks * 32

def reqEnableLen (k : ReqKind) (sz : BlockSize) : Nat :=
  match k with | .masked => sz.chunks * 4 | _ => 0

/-- R56: one enable per data byte; a WRITE's are all on. -/
def reqEnables (k : ReqKind) (sz : BlockSize) (body : List Byte) : List Bool :=
  match k with
  | .masked => (body.drop (9 + sz.chunks * 32)).flatMap bitsOf
  | _ => List.replicate (reqDataLen k sz) true

/-- R51, R193: the request a body spells, or none where it is MALFORMED. -/
def parseReq (k : ReqKind) (body : List Byte) : Option DataReq :=
  let r := fieldAt body 0 1
  let addr := fieldAt body 2 5
  if body.length < 9 then none
  else if hr : r < 16 then
    match sizeOfCode (byteOf (fieldAt body 7 1)), priorityOfCode (byteOf (fieldAt body 8 1)) with
    | some sz, some pr =>
      if addr % 32 ≠ 0 then none
      else if k ≠ .read ∧ addr % (sz.chunks * 32) ≠ 0 then none
      else if body.length ≠ 9 + reqDataLen k sz + reqEnableLen k sz then none
      else some
        { requester := ⟨r, hr⟩, tag := byteOf (fieldAt body 1 1), address := addr, size := sz, priority := pr,
          data := (body.drop 9).take (reqDataLen k sz), enables := reqEnables k sz body }
    | _, _ => none
  else none

/-! ### management requests (section 11.2) -/

/-- The five operations, and any other code (section 11.3). -/
inductive MOp where | get | set | commit | discard | action | other
deriving DecidableEq, Repr

/-- The operation of a request's body; a body too short to carry one names none. -/
def mopOf (body : List Byte) : MOp :=
  match body[2]? with
  | some b => if b = 0 then .get else if b = 1 then .set else if b = 2 then .commit else if b = 3 then .discard
      else if b = 4 then .action else .other
  | none => .other

/-- The object number of a request's body. -/
def objOf (body : List Byte) : Nat := fieldAt body 3 1

/-- The index of a request's body. -/
def idxOf (body : List Byte) : Nat := fieldAt body 4 1

/-- R193: 00h names ACTIVE, every other value STAGED. -/
def copyActive (body : List Byte) : Bool := fieldAt body 5 1 = 0

/-- The value of a request. -/
def valueOf (body : List Byte) : List Byte := body.drop 7

/-- R154 test 1: requester, operation code and length fields. -/
def formGood (body : List Byte) : Bool :=
  7 ≤ body.length && fieldAt body 0 1 < 16 && mopOf body ≠ .other && body.length = 7 + fieldAt body 6 1

/-! ### object values (R194) -/

def boolOfByte (n : Nat) : Option Bool := if n = 0 then some false else if n = 1 then some true else none

/-- The fields of the timing profile in table order, each with its MIN and MAX (section 1.5). The map mode's code stands
last. -/
def Timing.fields (t : Timing) : List (Nat × Nat × Nat) :=
  [(t.tOa, 1, 1023), (t.tDwell, 1, 1023), (t.tClose, 1, 1023), (t.tWrec, 1, 1023), (t.tRd, 1, 1023), (t.tWr, 1, 1023),
   (t.tRen, 1, 1023), (t.tOo, 1, 1023), (t.tQuad, 1, 1023), (t.tTurn, 0, 1023), (t.tExit, 1, 1023),
   (t.renewalInterval, 8, 128), (t.renewalRate, 1, 4), (t.urgentLevel, 1, 8), (t.idleClose, 0, 1023),
   (t.mapMode.code.toNat, 0, 1)]

/-- R17 test 1 with note 1 of section 1.5: position of the first field outside its range. The renewal rate, position 12,
takes 1, 2 and 4 only. -/
def Timing.badField (t : Timing) : Option Nat :=
  (List.range 16).find? fun i =>
    match t.fields[i]? with
    | some (v, lo, hi) => v < lo || hi < v || (i = 12 && v = 3)
    | none => false

def Timing.bytes (t : Timing) : List Byte :=
  u16 t.tOa ++ u16 t.tDwell ++ u16 t.tClose ++ u16 t.tWrec ++ u16 t.tRd ++ u16 t.tWr ++ u16 t.tRen ++ u16 t.tOo ++
  u16 t.tQuad ++ u16 t.tTurn ++ u16 t.tExit ++ [byteOf t.renewalInterval, byteOf t.renewalRate, byteOf t.urgentLevel] ++
  u16 t.idleClose ++ [t.mapMode.code]

def mapModeOf (n : Nat) : Option MapMode := if n = 0 then some .bankFirst else if n = 1 then some .pageFirst else none

/-- The timing profile a SET value spells, where its length and every field's range are right. -/
def parseTiming (v : List Byte) : Option Timing :=
  match mapModeOf (fieldAt v 27 1) with
  | some m =>
    let t : Timing :=
      { tOa := fieldAt v 0 2, tDwell := fieldAt v 2 2, tClose := fieldAt v 4 2, tWrec := fieldAt v 6 2,
        tRd := fieldAt v 8 2, tWr := fieldAt v 10 2, tRen := fieldAt v 12 2, tOo := fieldAt v 14 2,
        tQuad := fieldAt v 16 2, tTurn := fieldAt v 18 2, tExit := fieldAt v 20 2, renewalInterval := fieldAt v 22 1,
        renewalRate := fieldAt v 23 1, urgentLevel := fieldAt v 24 1, idleClose := fieldAt v 25 2, mapMode := m }
    if v.length = 28 ∧ t.badField = none then some t else none
  | none => none

def Window.bytes (w : Window) : List Byte :=
  [boolByte w.valid, byteOf w.sizeExp] ++ u24 w.logicalBase ++ u16 w.physicalBase ++ u16 w.readSet.toNat ++
  u16 w.writeSet.toNat ++ [w.policy.code, w.content.code]

/-- The window a SET value spells (R33). -/
def parseWindow (v : List Byte) : Option Window :=
  match boolOfByte (fieldAt v 0 1), boolOfByte (fieldAt v 11 1), boolOfByte (fieldAt v 12 1) with
  | some valid, some pol, some cc =>
    if v.length = 13 ∧ fieldAt v 1 1 ≤ 10 ∧ fieldAt v 2 3 ≤ 1048575 ∧ fieldAt v 5 2 ≤ 1023 then
      some { valid := valid, sizeExp := fieldAt v 1 1, logicalBase := fieldAt v 2 3, physicalBase := fieldAt v 5 2,
             readSet := BitVec.ofNat 16 (fieldAt v 7 2), writeSet := BitVec.ofNat 16 (fieldAt v 9 2),
             policy := if pol then .closeAfter else .keepOpen, content := if cc then .discardable else .retained }
    else none
  | _, _, _ => none

def Requester.bytes (r : Requester) : List Byte :=
  [boolByte r.enabled, boolByte r.manager, byteOf r.quota, r.order.code, r.ackPoint.code, r.returnOrder.code,
   byteOf r.ageLimit]

/-- The requester entry a SET value spells (R42). -/
def parseRequester (v : List Byte) : Option Requester :=
  match boolOfByte (fieldAt v 0 1), boolOfByte (fieldAt v 1 1), boolOfByte (fieldAt v 3 1), boolOfByte (fieldAt v 4 1),
      boolOfByte (fieldAt v 5 1) with
  | some en, some mg, some om, some ap, some ro =>
    if v.length = 7 ∧ fieldAt v 2 1 ≤ 64 ∧ 1 ≤ fieldAt v 6 1 then
      some { enabled := en, manager := mg, quota := fieldAt v 2 1, order := if om then .unordered else .ordered,
             ackPoint := if ap then .admission else .commit, returnOrder := if ro then .leadFirst else .linear,
             ageLimit := fieldAt v 6 1 }
    else none
  | _, _, _, _, _ => none

def LinkSettings.bytes (l : LinkSettings) : List Byte := u16 l.ackTimeout ++ u16 l.holdTime

/-- The LINK-SETTINGS a SET value spells (R130, R194). -/
def parseLinkSettings (v : List Byte) : Option LinkSettings :=
  if v.length = 4 ∧ 1 ≤ fieldAt v 0 2 ∧ fieldAt v 0 2 ≤ 1023 then
    some { ackTimeout := fieldAt v 0 2, holdTime := fieldAt v 2 2 }
  else none

def NoticeSettings.bytes (n : NoticeSettings) : List Byte := [byteOf n.destination.val, n.enables]

/-- The NOTICE-SETTINGS a SET value spells (R186, R194). -/
def parseNoticeSettings (v : List Byte) : Option NoticeSettings :=
  if v.length ≠ 2 then none
  else if h : fieldAt v 0 1 < 16 then some { destination := ⟨fieldAt v 0 1, h⟩, enables := byteOf (fieldAt v 1 1) }
  else none

end Sys2Proof.Machine
end

