-- ==== Sys2Proof/Machine/Ops.lean ====
section
/-! DEFINITION. Operations shared by the commands: the clock, the stored chunks, fault reports, the pending list, the
response unit's lists, and what one event of the part is. -/

namespace Sys2Proof.Machine

/-! ### events and the clock (log 1, 2) -/

/-- One command whose effect is `f`. While RESET_N is asserted "the part takes no frame, sends nothing and issues nothing
to the array" (R172), so nothing happens. -/
def State.event (s : State) (f : State → State) : Host.Outcome State Fault Refusal :=
  .next (if s.rst.isSome then s else f s)

/-- The clock stands at instant `d` or later: a timer with that expiry has expired (log 2). -/
def State.reach (s : State) (d : Nat) : State := { s with now := max s.now d }

/-- LINK-SETTINGS' ack timeout in ns (R130). -/
def State.ackTimeout (s : State) : Nat := s.mgmt.active.link.ackTimeout * 1000

/-- LINK-SETTINGS' hold time in ns (R130). -/
def State.holdTime (s : State) : Nat := s.mgmt.active.link.holdTime * 1000

/-- R18: T_INIT, 200 µs. -/
def tInitTime : Nat := 200000

/-- R132: the offer timer's 100 µs. -/
def offerTime : Nat := 100000

/-- R132: the training timeout, 8 ms. -/
def trainingTime : Nat := 8000000

/-- R133: the recovery timeout, 2 ms. -/
def recoveryTime : Nat := 2000000

/-! ### stored chunks (R1, section 1.7) -/

/-- The number of a stored chunk. It depends on the bank, page and chunk in page alone, so a map mode change moves no
stored data (R2). -/
def chunkKey (b : BankNo) (page chunk : Nat) : Nat := (b.val * 32768 + page) * 64 + chunk

/-- The bank of a stored chunk number. -/
def bankOfKey (k : Nat) : Nat := k / 2097152

/-- The chunk stored under a number, where its contents are guaranteed. -/
def Store.find : Store → Nat → Option Chunk
  | [], _ => none
  | (k', c) :: m, k => if k = k' then some c else Store.find m k

/-- Store a chunk under a number. -/
def Store.put : Store → Nat → Chunk → Store
  | [], k, c => [(k, c)]
  | (k', c') :: m, k, c =>
    if k < k' then (k, c) :: (k', c') :: m
    else if k = k' then (k, c) :: m
    else (k', c') :: Store.put m k c

/-- The contents of every chunk of a bank are no longer guaranteed (R39, R108). -/
def Store.decay (m : Store) (b : BankNo) : Store := m.filter fun kc => bankOfKey kc.1 ≠ b.val

/-- The canonical form: numbers strictly rising, each of the array's 33,554,432 chunks, each chunk of 32 bytes (R1). -/
def Store.wf : Store → Bool
  | [] => true
  | [(k, c)] => k < 33554432 && c.data.length = 32
  | (k, c) :: (k', c') :: m => k < k' && c.data.length = 32 && Store.wf ((k', c') :: m)

/-- R26: the check result of a chunk. -/
def Chunk.result (c : Chunk) : CheckResult :=
  if c.poison then .poisoned
  else match c.check with
    | .agrees => .clean
    | .oneBit _ => .corrected
    | .broken => .uncorrectable

/-- A data bit turned over; a bit beyond the 32 data bytes is the check code's. -/
def flipBit (data : List Byte) (pos : Nat) : List Byte := data.modify (pos / 8) fun b => b ^^^ (1#8 <<< (pos % 8))

/-- R26, R27: the data a check hands on: corrected where the result is CORRECTED, and as stored otherwise. -/
def Chunk.checked (c : Chunk) : List Byte :=
  match c.result, c.check with
  | .corrected, .oneBit pos => flipBit c.data pos
  | _, _ => c.data

/-- A chunk stored anew (R25, R27): its check code computed over its bytes. -/
def Chunk.fresh (data : List Byte) (poison : Bool) : Chunk := { data := data, check := .agrees, poison := poison }

/-- Free chunk number `n`: any data with any check result (R24; log 6). -/
def freeChunk (n : Nat) : Chunk where
  data := (List.range 32).map (Config.freeByte n)
  check := if Config.freeCheck n = 0 then .agrees else if Config.freeCheck n = 1 then .oneBit (Config.freeErrorBit n)
    else .broken
  poison := Config.freePoison n

/-- A stored chunk disturbed (log 7). A second single-bit error is no longer a single-bit error. -/
def Chunk.disturb (c : Chunk) : UpsetKind → Chunk
  | .oneBit pos =>
    { c with data := flipBit c.data pos, check := if c.check = .agrees then .oneBit pos else .broken }
  | .anyBits d => if d.length = 32 then { c with data := d, check := .broken } else c

/-- R39: the array does not keep the contents of an exempt bank (log 10). -/
def State.exemptBank (s : State) (b : BankNo) : Bool := (s.ren.records.get b).exempt

/-- A chunk as it is stored, where its contents are guaranteed (R24, R39, R108; log 6, 10). -/
def State.guaranteed (s : State) (b : BankNo) (page chunk : Nat) : Option Chunk :=
  if s.exemptBank b then none else s.array.find (chunkKey b page chunk)

/-- What a read of a chunk finds: the chunk, or a free chunk where its contents are not guaranteed (log 6). -/
def State.orFree (s : State) : Option Chunk → Chunk × State
  | some c => (c, s)
  | none => (freeChunk s.draws, { s with draws := s.draws + 1 })

def State.storeChunk (s : State) (b : BankNo) (page chunk : Nat) (c : Chunk) : State :=
  { s with array := s.array.put (chunkKey b page chunk) c }

/-- The chunk an access finds where `c` is stored: `c` under the disturbances that name its position in the block (log
7). -/
def Chunk.found (c : Chunk) (upsets : List Upset) (k : Nat) : Chunk :=
  (upsets.filter fun u => u.chunk = k).foldl (fun c u => c.disturb u.kind) c

/-- The disturbances of chunk `k` of an entry's block, on its stored chunk (log 7). -/
def State.disturbChunk (s : State) (e : Entry) (k : Nat) (upsets : List Upset) : State :=
  match s.array.find (chunkKey e.bank e.page (e.first + k)) with
  | some c =>
    if upsets.any fun u => u.chunk = k then s.storeChunk e.bank e.page (e.first + k) (c.found upsets k) else s
  | none => s

/-! ### fault reports and notices (chapter 10) -/

/-- A counter after one more event: it stays at 65535 (R184). -/
def bump (n : Nat) : Nat := min 65535 (n + 1)

/-- R184: one more event of a counter. -/
def State.count (s : State) (i : Fin 11) : State :=
  { s with mgmt := { s.mgmt with counters := s.mgmt.counters.set i (bump (s.mgmt.counters.get i)) } }

/-- R188: a notice dropped for a full queue. -/
def State.dropNotice (s : State) : State :=
  ({ s with mgmt := { s.mgmt with dropped := min 255 (s.mgmt.dropped + 1) } }).count 10

/-- R187: a report offered to the notice queue. -/
def State.offerNotice (s : State) (r : Report) : State :=
  if s.mgmt.notice.enables.getLsbD r.counter.val then
    if s.mgmt.notices.length < 16 then
      { s with mgmt :=
        { s.mgmt with
          notices := s.mgmt.notices ++ [{ number := s.mgmt.nextNotice, report := r, dropped := s.mgmt.dropped }]
          nextNotice := s.mgmt.nextNotice + 1
          dropped := 0 } }
    else s.dropNotice
  else s

/-- R183: a fault report is counted and offered to the notice queue. -/
def State.report (s : State) (r : Report) : State := (s.count r.counter).offerNotice r

/-! ### banks -/

def State.bank (s : State) (b : BankNo) : Bank := s.port.banks.get b

def State.setBank (s : State) (b : BankNo) (r : Bank) : State :=
  { s with port := { s.port with banks := s.port.banks.set b r } }

/-- The number of banks in a state. -/
def State.banksIn (s : State) (st : BankState) : Nat := s.port.banks.count fun b => b.state = st

/-- The active timing profile (R16). -/
def State.timing (s : State) : Timing := s.mgmt.active.timing

/-! ### pending list (sections 4.1, 4.2) -/

/-- R60: two entries conflict. -/
def Entry.conflicts (a b : Entry) : Bool :=
  a.bank = b.bank && a.page = b.page && a.first < b.first + b.size.chunks && b.first < a.first + a.size.chunks &&
    (a.kind ≠ .read || b.kind ≠ .read)

/-- R60: the youngest entry of a list, oldest first, that conflicts with `e`. -/
def youngestConflict (older : List Entry) (e : Entry) : Option Nat :=
  ((older.filter fun o => o.conflicts e).getLast?).map Entry.id

/-- R71: relink every entry whose blocked-by names none of `ids`, the entries still in the list. -/
def relinkFrom (ids : List Nat) : List Entry → List Entry → List Entry
  | _, [] => []
  | older, e :: es =>
    let e' := match e.blockedBy with
      | some x => if x ∈ ids then e else { e with blockedBy := youngestConflict older e }
      | none => e
    e' :: relinkFrom ids (older ++ [e']) es

/-- R71: the list after some entries have left it. -/
def relink (l : List Entry) : List Entry := relinkFrom (l.map Entry.id) [] l

/-- R70: an entry targets the bank its bank field names, whatever its state. -/
def State.targeted (s : State) (b : BankNo) : Bool := s.sched.list.any fun e => e.bank = b

/-- Replace the list. -/
def State.setList (s : State) (l : List Entry) : State := { s with sched := { s.sched with list := l } }

/-- R68, R71: one entry leaves the list. -/
def State.removeEntry (s : State) (e : Entry) : State :=
  s.setList (relink (s.sched.list.filter fun o => o.id ≠ e.id))

/-- Change one entry. -/
def State.updEntry (s : State) (id : Nat) (f : Entry → Entry) : State :=
  s.setList (s.sched.list.map fun e => if e.id = id then f e else e)

/-- R57: the write slot of an entry becomes free. -/
def State.freeWriteSlot (s : State) (e : Entry) : State :=
  match e.writeSlot with
  | some i => { s with adm := { s.adm with slots := s.adm.slots.set i none } }
  | none => s

/-! ### response unit's lists (chapter 6) -/

def State.setSlot (s : State) (i : Fin 32) (r : RespSlot) : State :=
  { s with resp := { s.resp with slots := s.resp.slots.set i r } }

def State.setOrder (s : State) (r : ReqNo) (l : List Place) : State :=
  { s with resp := { s.resp with orders := s.resp.orders.set r l } }

/-- R118: the requester's OWED place for a tag becomes READY with the frame given. -/
def State.readyPlace (s : State) (r : ReqNo) (tag : Byte) (st : PlaceState) : State :=
  s.setOrder r ((s.resp.orders.get r).map fun p => if p.tag = tag && p.state = .owed then { p with state := st } else p)

/-- R112: F, the number of free response slots. -/
def State.freeSlots (s : State) : Nat := s.resp.slots.count fun x => x = .free

/-- R57: the number of free write slots. -/
def State.freeWriteSlots (s : State) : Nat := s.adm.slots.count Option.isNone

/-- R45, R85: a requester counts as ORDERED. -/
def State.countsOrdered (s : State) (r : ReqNo) : Bool := (s.resp.orders.get r).any fun p => p.mode = .ordered

/-- R121: a place passes its requester's release test: READY, and the oldest or recorded UNORDERED. -/
def Place.releasable (p : Place) (oldest : Bool) : Bool := p.state ≠ .owed && (oldest || p.mode = .unordered)

/-- R121: the requester's candidate (log 12). -/
def candidateIn : List Place → Option Place
  | [] => none
  | p :: ps => if p.releasable true then some p else ps.find? fun q => q.releasable false

def State.candidate (s : State) (r : ReqNo) : Option Place := candidateIn (s.resp.orders.get r)

/-! ### management unit's replies (R155) -/

/-- A reply formed into the reply list. -/
def State.reply (s : State) (e : Echo) (st : MStatus) (value : List Byte := []) : State :=
  { s with mgmt := { s.mgmt with replies := s.mgmt.replies ++ [.manageReply e st .none 0 value] } }

/-- A reply INVALID, with the failing check and its index. -/
def State.replyInvalid (s : State) (e : Echo) (ck : CommitCheck) (ix : Nat) : State :=
  { s with mgmt := { s.mgmt with replies := s.mgmt.replies ++ [.manageReply e .invalid ck ix []] } }

/-- A byte of a frame's body echoed as received; one that a short body does not carry is free (log 14). -/
def State.echoByte (s : State) (body : List Byte) (i : Nat) : Byte := body.getD i (Config.freeByte s.draws i)

/-- The echoed fields of a management request (R155). -/
def State.echoOf (s : State) (body : List Byte) : Echo where
  requester := s.echoByte body 0
  mtag := s.echoByte body 1
  op := s.echoByte body 2
  object := s.echoByte body 3
  index := s.echoByte body 4

/-- The free value of an echo has been used where the body did not carry its `n` echoed bytes (log 14). -/
def State.echoed (s : State) (body : List Byte) (n : Nat) : State :=
  if body.length < n then { s with draws := s.draws + 1 } else s

end Sys2Proof.Machine
end

