-- ==== Sys2Proof/Machine/Gate.lean ====
section
/-! DEFINITION. Wanted operations of the request scheduler and the renewal unit, and the issue gate (sections 1.8, 4.3 to
4.5, 5.3). -/

namespace Sys2Proof.Machine

/-! ### the scheduler's wants -/

/-- R99: a bank is urgent. -/
def State.urgent (s : State) (b : BankNo) : Bool :=
  let r := s.ren.records.get b
  !r.exempt && (s.timing.urgentLevel : Int) ≤ r.debt

/-- A READ entry that still needs a response slot and holds its tag (R85). -/
def Entry.needsSlot (e : Entry) : Bool := e.kind = .read && e.tagHeld && e.respSlot.isNone

/-- The entries older than the entry `id`. -/
def olderThan (l : List Entry) (id : Nat) : List Entry := l.takeWhile fun e => e.id ≠ id

/-- R85: a head read. -/
def State.headRead (s : State) (e : Entry) : Bool :=
  e.needsSlot && s.countsOrdered e.requester &&
    (olderThan s.sched.list e.id).all fun o => !(o.requester = e.requester && o.needsSlot)

/-- R85: H, the number of head reads. -/
def State.headReads (s : State) : Nat := s.sched.list.countP s.headRead

/-- R85: a READ entry may reserve a response slot. -/
def State.mayReserve (s : State) (e : Entry) : Bool :=
  (s.headRead e && 1 ≤ s.freeSlots) || s.headReads + 1 ≤ s.freeSlots

/-- R73: eligible. -/
def Entry.eligible (e : Entry) : Bool := e.state = .waiting && e.blockedBy.isNone

/-- R73: ready. -/
def State.ready (s : State) (e : Entry) : Bool := e.eligible && (e.kind ≠ .read || s.mayReserve e)

/-- R73: the chosen entry of a set of ready entries, oldest first. -/
def chosen (l : List Entry) : Option Entry :=
  match l.find? Entry.overdue with
  | some e => some e
  | none =>
    match l.find? fun e => e.priority = .expedited with
    | some e => some e
    | none => l.head?

/-- The scheduler's wanted operation for a bank (R74, R75). -/
inductive SchedWant where
  | openFor (e : Entry)
  | access (e : Entry)
  | conflictClose (e : Entry)
  | closeAfter
  | idleClose
deriving DecidableEq, Repr

/-- R74: the want for a bank with open page `p`, from the ready entries that target it. -/
def State.wantOpenPage (s : State) (b : BankNo) (p : Nat) (rs : List Entry) : Option SchedWant :=
  let hits := rs.filter fun e => e.page = p
  let misses := rs.filter fun e => e.page ≠ p
  if misses.any Entry.overdue && !hits.any Entry.overdue then (chosen misses).map .conflictClose
  else match chosen hits, chosen misses with
    | some e, _ => some (.access e)
    | none, some e => some (.conflictClose e)
    | none, none =>
      if s.sched.closeAfter.get b && !s.sched.list.any (fun e => e.bank = b && e.page = p) then some .closeAfter
      else if !s.targeted b && s.sched.idle.get b = .expired then some .idleClose
      else none

/-- R74, R75, R79: the scheduler's want for a bank. -/
def State.schedWant (s : State) (b : BankNo) : Option SchedWant :=
  if s.urgent b then none
  else
    let rs := s.sched.list.filter fun e => e.bank = b && s.ready e
    match (s.bank b).openPage with
    | some p => s.wantOpenPage b p rs
    | none => (chosen rs).map .openFor

/-! ### the renewal unit's wants -/

inductive RenWant where | close | renew
deriving DecidableEq, Repr

/-- R105: the modes in which renewal wants are presented. -/
def PortMode.renews : PortMode → Bool
  | .run | .halting | .halted => true
  | .init | .held | .waking => false

/-- R99 to R101, R105: the renewal unit's want for a bank. -/
def State.renWant (s : State) (b : BankNo) : Option RenWant :=
  let r := s.ren.records.get b
  let st := (s.bank b).state
  if r.exempt || !s.port.mode.renews || st = .renewing || st = .held then none
  else if s.urgent b then
    (if st = .closing || st = .closed then some .renew else some .close)
  else if 1 ≤ r.debt then some .renew
  else if -3 ≤ r.debt && st = .closed && !s.targeted b then some .renew
  else none

/-! ### permission (R28) -/

/-- R11: the T_OO test. -/
def State.ooMet (s : State) : Bool :=
  match s.port.history.getLast? with
  | some t => t + s.timing.tOo ≤ s.now
  | none => true

/-- R12: the open history's test. -/
def State.quadMet (s : State) : Bool :=
  match s.port.history with
  | t :: _ => s.port.history.length < 4 || t + s.timing.tQuad ≤ s.now
  | [] => true

/-- R28, row OPEN. -/
def State.openPermitted (s : State) (b : BankNo) : Bool :=
  s.port.mode = .run && (s.bank b).state = .closed && s.ooMet && s.quadMet

/-- R25, R27: the enables of chunk `k` of an entry's block. -/
def WriteSlot.chunkEnables (w : WriteSlot) (k : Nat) : List Bool := (w.enables.drop (32 * k)).take 32

/-- R6 note 1: a chunk of a masked write is partial. -/
def WriteSlot.partialChunk (w : WriteSlot) (k : Nat) : Bool :=
  (w.chunkEnables k).any id && !(w.chunkEnables k).all id

/-- The write slot an entry holds. -/
def State.writeSlotOf (s : State) (e : Entry) : Option WriteSlot :=
  match e.writeSlot with
  | some i => s.adm.slots.get i
  | none => none

/-- R6: the access kind of an entry. -/
def State.accessKind (s : State) (e : Entry) : AccessKind :=
  match e.kind with
  | .read => .read
  | .write => .write
  | .masked =>
    match s.writeSlotOf e with
    | some w => if (List.range e.size.chunks).any w.partialChunk then .merge else .write
    | none => .write

/-- R6: the direction at start of an access. -/
def AccessKind.startDir : AccessKind → Direction
  | .read => .read | .write => .write | .merge => .read

/-- R6: the direction at end of an access. -/
def AccessKind.endDir : AccessKind → Direction
  | .read => .read | .write => .write | .merge => .write

/-- R28, row ACCESS, but for the direction (R13, R85). -/
def State.accessPermittedButTurn (s : State) (b : BankNo) (e : Entry) : Bool :=
  s.port.mode = .run && (s.bank b).state = .opened && (s.bank b).openPage = some e.page && s.banksIn .accessing = 0 &&
    (e.kind ≠ .read || s.mayReserve e)

/-- R14: the direction permits an access. -/
def State.turnMet (s : State) (d : Direction) : Bool :=
  s.port.direction = .noDir || s.port.direction = d ||
    match s.port.lastAccess with
    | some t => t + s.timing.tTurn ≤ s.now
    | none => true

/-- R28, row CLOSE. -/
def State.closePermitted (s : State) (b : BankNo) : Bool :=
  (s.port.mode = .run || s.port.mode = .halting) && (s.bank b).state = .opened && (s.bank b).dwellMet &&
    (s.bank b).recoveryMet

/-- R28, row RENEW. -/
def State.renewPermitted (s : State) (b : BankNo) : Bool :=
  (s.port.mode = .run || s.port.mode = .halting || (s.port.mode = .halted && !s.port.holdReq)) &&
    (s.bank b).state = .closed && s.banksIn .renewing < 2

/-! ### classes and ranking (R29, R30) -/

/-- An operation the gate may issue on a bank. -/
inductive Op where
  | openFor (e : Entry)
  | access (e : Entry)
  | close
  | renew
deriving DecidableEq, Repr

/-- A want with its rank: class, then the order within the class (R30), compared from the left. -/
structure Cand where
  bank : BankNo
  op : Op
  rank : List Nat
deriving DecidableEq, Repr

/-- The lexicographic order of ranks. -/
def rankLt : List Nat → List Nat → Bool
  | [], [] => false
  | [], _ :: _ => true
  | _ :: _, [] => false
  | a :: as, b :: bs => a < b || (a = b && rankLt as bs)

/-- An entry's place in the list, 0 for the oldest. -/
def State.place (s : State) (e : Entry) : Nat := (olderThan s.sched.list e.id).length

/-- R29: the class of a want that serves an entry: 2 overdue, 3 expedited, else the class given. -/
def Entry.classFor (e : Entry) (normal : Nat) : Nat :=
  if e.overdue then 2 else if e.priority = .expedited then 3 else normal

/-- R30: the rank of a want that serves an entry. -/
def State.entryRank (s : State) (e : Entry) (normal : Nat) : List Nat := [e.classFor normal, 0, s.place e]

/-- R30: higher debt first. -/
def debtRank (d : Int) : Nat := (8 - d).toNat

/-- R29, R30: the scheduler's want as a ranked candidate. -/
def State.schedCand (s : State) (b : BankNo) : Option Cand :=
  (s.schedWant b).map fun w =>
    match w with
    | .openFor e => { bank := b, op := .openFor e, rank := s.entryRank e 5 }
    | .access e => { bank := b, op := .access e, rank := s.entryRank e 4 }
    | .conflictClose e => { bank := b, op := .close, rank := s.entryRank e 5 }
    | .closeAfter => { bank := b, op := .close, rank := [5, 1, b.val] }
    | .idleClose => { bank := b, op := .close, rank := [7, 0, b.val] }

/-- R29, R30: the renewal unit's want as a ranked candidate. -/
def State.renCand (s : State) (b : BankNo) : Option Cand :=
  let d := (s.ren.records.get b).debt
  (s.renWant b).map fun w =>
    { bank := b
      op := match w with | .close => .close | .renew => .renew
      rank := if s.urgent b then [1, 0, debtRank d, b.val] else if 1 ≤ d then [6, 0, debtRank d, b.val]
        else [7, 1, debtRank d, b.val] }

/-- R20, R29: the array port's halt close of an OPEN bank in HALTING. -/
def State.haltCand (s : State) (b : BankNo) : Option Cand :=
  if s.port.mode = .halting && (s.bank b).state = .opened then some { bank := b, op := .close, rank := [5, 2, b.val] }
  else none

/-- R28: every want the gate sees. -/
def State.cands (s : State) : List Cand :=
  (List.finRange 16).flatMap fun b => (s.schedCand b).toList ++ (s.renCand b).toList ++ (s.haltCand b).toList

/-- R14: an access held back only by T_TURN. -/
def State.turnHeld (s : State) (c : Cand) : Bool :=
  match c.op with
  | .access e => s.accessPermittedButTurn c.bank e && !s.turnMet (s.accessKind e).startDir
  | _ => false

/-- R28, with R14's hold of the accesses that rank below one held back only by T_TURN. -/
def State.permitted (s : State) (c : Cand) : Bool :=
  match c.op with
  | .openFor _ => s.openPermitted c.bank
  | .access e =>
    s.accessPermittedButTurn c.bank e && s.turnMet (s.accessKind e).startDir &&
      !s.cands.any fun h => s.turnHeld h && rankLt h.rank c.rank
  | .close => s.closePermitted c.bank
  | .renew => s.renewPermitted c.bank

/-- The first-ranked of some candidates. -/
def best : List Cand → Option Cand
  | [] => none
  | c :: cs =>
    match best cs with
    | some d => if rankLt d.rank c.rank then some d else some c
    | none => some c

/-- R30: the permitted want that ranks first. -/
def State.choice (s : State) : Option Cand := best (s.cands.filter s.permitted)

/-! ### issue (R4, R6, R8, R9, R31) -/

/-- R4: an open issues. -/
def State.issueOpen (s : State) (b : BankNo) (e : Entry) : State :=
  let r := s.bank b
  let s := s.setBank b
    { r with
      state := .opening, openPage := some e.page, dwellMet := false
      tOa := some (s.now + s.timing.tOa), tDwell := some (s.now + s.timing.tDwell) }
  { s with port := { s.port with history := (if s.port.history.length < 4 then s.port.history else s.port.history.tail) ++ [s.now] } }

/-- R6: the duration of an access. -/
def Timing.duration (t : Timing) : AccessKind → Nat
  | .read => t.tRd | .write => t.tWr | .merge => t.tRd + t.tWr

/-- R83: a bypass is counted for an entry. -/
def State.age (s : State) (e : Entry) : Entry :=
  if e.bypass < 255 then
    let n := e.bypass + 1
    { e with bypass := n, overdue := e.overdue || (s.mgmt.active.requesters.get e.requester).ageLimit ≤ n }
  else e

/-- R83: aging of the entries older than `id`, eligible and WAITING. -/
def State.ageOlder (s : State) (id : Nat) : List Entry → List Entry
  | [] => []
  | e :: es => if e.id = id then e :: es else (if e.eligible then s.age e else e) :: s.ageOlder id es

/-- R82, R113: a read's response slot, the lowest-numbered FREE one, is reserved. -/
def State.reserveSlot (s : State) (e : Entry) : State :=
  if e.kind = .read then
    match s.resp.slots.findIdx? fun x => x = .free with
    | some i =>
      (s.setSlot i (.reserved
        { requester := e.requester, tag := e.tag, size := e.size, order := e.returnOrder, lead := e.lead.getD 0 } false)).updEntry
          e.id fun x => { x with respSlot := some i }
    | none => s
  else s

/-- R27: the old chunks that a merge reads at its start, by their positions in its block. Only those of its partial chunks
are used (R25). -/
def State.readOld (s : State) (e : Entry) : AccessKind → List (Option Chunk)
  | .merge => (List.range e.size.chunks).map fun k => s.guaranteed e.bank e.page (e.first + k)
  | .read | .write => []

/-- R6, R27, R82: an access issues. -/
def State.issueAccess (s : State) (b : BankNo) (e : Entry) : State :=
  let kind := s.accessKind e
  let r := s.bank b
  let s := s.setBank b
    { r with
      state := .accessing, access := some kind, tAccess := some (s.now + s.timing.duration kind)
      oldChunks := s.readOld e kind }
  let s := s.setList (s.ageOlder e.id s.sched.list)
  let s := s.updEntry e.id fun x => { x with state := .issued }
  s.reserveSlot e

/-- R8, R76, R77, R81: a close issues. -/
def State.issueClose (s : State) (b : BankNo) : State :=
  let r := s.bank b
  let s := s.setBank b { r with state := .closing, openPage := none, tClose := some (s.now + s.timing.tClose) }
  { s with sched := { s.sched with closeAfter := s.sched.closeAfter.set b false, idle := s.sched.idle.set b .stopped } }

/-- R9: a renew issues. -/
def State.issueRenew (s : State) (b : BankNo) : State :=
  let r := s.bank b
  s.setBank b { r with state := .renewing, tRen := some (s.now + s.timing.tRen) }

/-- The effect of an issue. -/
def State.issue (s : State) (c : Cand) : State :=
  match c.op with
  | .openFor e => s.issueOpen c.bank e
  | .access e => s.issueAccess c.bank e
  | .close => s.issueClose c.bank
  | .renew => s.issueRenew c.bank

/-- R30: the gate issues, one at a time, while a want is permitted, at most `fuel` times. An issue takes its bank out of
CLOSED or OPEN, and only a later event brings a bank back, so 16 issues are the most one moment can hold. -/
def gate : Nat → State → State
  | 0, s => s
  | fuel + 1, s =>
    match s.choice with
    | some c => gate fuel (s.issue c)
    | none => s

end Sys2Proof.Machine
end

