-- ==== Sys2Proof/Machine/Modes.lean ====
section
/-! DEFINITION. Array port modes and halt requests (section 1.6), the commit point (R164), the drain (R175 to R177), and
what follows within one event once its own effect is done. -/

namespace Sys2Proof.Machine

/-! ### modes -/

def State.setMode (s : State) (m : PortMode) : State := { s with port := { s.port with mode := m } }

def State.setPart (s : State) (p : Part) : State := { s with mgmt := { s.mgmt with part := p } }

/-- R19, R173, R180: entry into RUN; the part leaves STARTING and RESUMING for SERVING. -/
def State.enterRun (s : State) : State :=
  let p := s.mgmt.part
  (s.setMode .run).setPart
    { p with state := if p.state = .starting ∨ p.state = .resuming then .serving else p.state }

/-- R20: a halt request becomes standing in RUN. -/
def PortMode.onHalt : PortMode → PortMode
  | .run => .halting
  | m => m

/-- R20: the commit halt is requested. -/
def State.requestCommitHalt (s : State) : State :=
  { s with port := { s.port with commitHalt := true, mode := s.port.mode.onHalt } }

/-- R20: the drain halt is requested. -/
def State.requestDrainHalt (s : State) : State :=
  { s with port := { s.port with drainHalt := true, mode := s.port.mode.onHalt } }

/-- R20, R21: RUN is entered when the last standing halt request is withdrawn in HALTING or HALTED. -/
def State.afterWithdrawal (s : State) : State :=
  if (s.port.mode = .halting ∨ s.port.mode = .halted) ∧ s.port.commitHalt = false ∧ s.port.drainHalt = false then s.enterRun
  else s

/-- R20: the commit halt is withdrawn, where it stands. -/
def State.withdrawCommitHalt (s : State) : State :=
  if s.port.commitHalt then ({ s with port := { s.port with commitHalt := false } }).afterWithdrawal else s

/-- R20: the drain halt is withdrawn, where it stands. -/
def State.withdrawDrainHalt (s : State) : State :=
  if s.port.drainHalt then ({ s with port := { s.port with drainHalt := false } }).afterWithdrawal else s

/-- R97: the tick timer's period. -/
def Timing.tickPeriod (t : Timing) : Nat := t.renewalInterval * 100 / t.renewalRate

/-- R97: the tick timer starts a period. -/
def State.startTick (s : State) : State :=
  let p := s.timing.tickPeriod
  { s with ren := { s.ren with tick := some { at_ := s.now + p, period := p } } }

/-- R18, R23: the mode leaves INIT or WAKING for RUN, or for HALTING where a halt request stands; the tick timer starts. -/
def State.leaveIdleMode (s : State) : State :=
  let s := s.startTick
  if s.port.commitHalt ∨ s.port.drainHalt then s.setMode .halting else s.enterRun

/-- R10: every bank record in one state, with no operation. -/
def State.allBanks (s : State) (st : BankState) : State :=
  { s with port := { s.port with banks := Table.fill 16 (Bank.idle st) } }

/-- R107: every debt becomes 0. -/
def State.zeroDebts (s : State) : State :=
  { s with ren := { s.ren with records := s.ren.records.mapIdx fun _ r => { r with debt := 0 } } }

/-- R23: the wake is issued, where the mode is HELD. -/
def State.wake (s : State) : State :=
  if s.port.mode = .held then
    ({ s with port := { s.port with mode := .waking, tExit := some (s.now + s.timing.tExit) } }).zeroDebts
  else s

/-! ### the exemption set (R38) -/

/-- R38: a window maps a bank under a map mode. -/
def Window.maps (w : Window) (m : MapMode) (b : BankNo) : Bool :=
  match m with
  | .bankFirst => true
  | .pageFirst => w.physicalBase < (b.val + 1) * 64 && b.val * 64 < w.physicalBase + 2 ^ w.sizeExp

/-- R38: the bank is in the exemption set of a window table and map mode. -/
def exemptIn (o : Objects) (b : BankNo) : Bool :=
  o.windows.rows.any Window.valid &&
    !o.windows.rows.any fun w => w.valid && w.content = .retained && w.maps o.timing.mapMode b

/-- R104: a renewal record at a commit point that exempts its bank, or does not. The debt of a bank that becomes exempt is
set to 0 (R96) also in HELD, where R105 keeps the debts of the hold issue: DESIGN CHOICE (log 31). -/
def Renewal.atCommit (r : Renewal) (exempt : Bool) : Renewal :=
  if exempt then { r with exempt := true, debt := if r.exempt then r.debt else 0 } else { r with exempt := false }

/-- R39: the chunks of the banks given are no longer guaranteed. -/
def Store.decayWhere (m : Store) (lost : BankNo → Bool) : Store :=
  m.filter fun kc => !(List.finRange 16).any fun b => bankOfKey kc.1 = b.val && lost b

/-- R39: the chunks after a commit point. The banks that leave the exemption set lose theirs, but not in HELD, where the
array renews every bank itself, exempt or not (R22; log 10). -/
def State.arrayAtCommit (s : State) : Store :=
  if s.port.mode = .held then s.array
  else s.array.decayWhere fun b => s.exemptBank b && !exemptIn s.mgmt.staged b

/-! ### the commit point (R164) -/

/-- R48, R92: overdue promotion of the WAITING entries under the new age limits. -/
def promote (o : Objects) (e : Entry) : Entry :=
  if e.state = .waiting ∧ (o.requesters.get e.requester).ageLimit ≤ e.bypass then { e with overdue := true } else e

/-- R77: an idle-close timer at a commit point with the new idle close field. -/
def IdleTimer.atCommit (t : IdleTimer) (idleClose : Nat) : IdleTimer := if idleClose = 0 then .stopped else t

/-- R164: the blocks that act on the new active copies at the commit point itself. In HELD, at a COMMIT taken in RETAINED
(R163), the renewal records change as R104 says, and not as R105's last paragraph and R106 would leave them: DESIGN
CHOICE (log 31). The chunks: log 10. -/
def State.applyCommit (s : State) : State :=
  let o := s.mgmt.staged
  { s with
    array := s.arrayAtCommit
    ren := { s.ren with records := s.ren.records.mapIdx fun b r => r.atCommit (exemptIn o b) }
    sched := { s.sched with
      list := s.sched.list.map (promote o)
      idle := s.sched.idle.mapIdx fun _ t => t.atCommit o.timing.idleClose } }

/-- R164, R168: the management unit's own records at the commit point. -/
def Mgmt.atCommit (m : Mgmt) : Mgmt :=
  { m with
    active := m.staged
    commit := CommitRecord.reset
    status := { m.status with
      lastResult := .ok, check := .none, checkIndex := 0, stagedDiffers := false, epoch := (m.status.epoch + 1) % 65536 } }

/-- R164: the reply of a commit that reaches its commit point. -/
def State.commitReply (s : State) (r : Option ReplyOwed) : State :=
  match r with
  | some (.owed e) => s.reply e .ok
  | _ => s

/-- R164: the commit point. -/
def State.commitPoint (s : State) : State :=
  let owed := s.mgmt.commit.replyOwed
  let s := s.applyCommit
  let s := { s with mgmt := s.mgmt.atCommit }
  (s.withdrawCommitHalt).commitReply owed

/-! ### hold and retention (R22, R176, R177) -/

/-- R177: entry into RETAINED, with the reply owed. -/
def State.enterRetained (s : State) : State :=
  let p := s.mgmt.part
  let s := match p.retainOwed with
    | some e => s.reply e .ok
    | none => s
  s.setPart { p with state := .retained, stage := none, retainOwed := none }

/-- R10, R22, R106, R177: the hold issues. What the array keeps from here on is what it kept until now: the chunks of a
bank that is exempt at the hold are not among them (R39; log 10). -/
def State.issueHold (s : State) : State :=
  let s := { s with array := s.array.decayWhere s.exemptBank }
  let s := s.allBanks .held
  let s := { s with port := { s.port with mode := .held, holdReq := false } }
  let s := { s with ren := { s.ren with tick := none } }
  s.enterRetained

/-! ### what follows in the same event -/

/-- R68, R163, R175: the pending list is empty: a map-changing commit in LIST-WAIT and a drain in stage LIST request
their halts. -/
def State.listEmptyTest (s : State) : State :=
  if s.sched.list = [] then
    let s := if s.mgmt.commit.state = .listWait then
        ({ s with mgmt := { s.mgmt with commit := { s.mgmt.commit with state := .haltWait } } }).requestCommitHalt
      else s
    if s.mgmt.part.state = .draining ∧ s.mgmt.part.stage = some .list then
      (s.setPart { s.mgmt.part with stage := some .halt }).requestDrainHalt
    else s
  else s

/-- R20: HALTING becomes HALTED at the first moment at which every bank is CLOSED. -/
def State.haltedTest (s : State) : State :=
  if s.port.mode = .halting ∧ s.banksIn .closed = 16 then s.setMode .halted else s

/-- R163, R165: a commit in HALT-WAIT takes its commit point at HALTED. -/
def State.commitTest (s : State) : State :=
  if s.port.mode = .halted ∧ s.mgmt.commit.state = .haltWait then s.commitPoint else s

/-- R176: a drain in stage HALT sends its hold request at HALTED with no commit in progress. -/
def State.holdRequestTest (s : State) : State :=
  if s.port.mode = .halted ∧ s.mgmt.part.stage = some .halt ∧ s.mgmt.commit.state = .none then
    ({ s with port := { s.port with holdReq := true } }).setPart { s.mgmt.part with stage := some .hold }
  else s

/-- R22: a standing hold request issues the hold in HALTED once no bank is RENEWING. -/
def State.holdTest (s : State) : State :=
  if s.port.mode = .halted ∧ s.port.holdReq ∧ s.banksIn .renewing = 0 then s.issueHold else s

/-- The mode and drain changes of one event, in the order R20, R165 and R176 give. -/
def State.advance (s : State) : State :=
  s.listEmptyTest.haltedTest.commitTest.holdRequestTest.holdTest

/-- R77: the idle-close timer of a bank, started where the bank is OPEN, not targeted, and the timer is enabled. -/
def State.idleOf (s : State) (b : BankNo) (t : IdleTimer) : IdleTimer :=
  if t = .stopped ∧ (s.bank b).state = .opened ∧ s.targeted b = false ∧ s.timing.idleClose ≠ 0 then
    .running (s.now + s.timing.idleClose * 20)
  else t

/-- R77: the idle-close timers that start. -/
def State.startIdle (s : State) : State :=
  { s with sched := { s.sched with idle := s.sched.idle.mapIdx s.idleOf } }

/-- What ends an event that can change a want: the mode changes, then the idle-close timers, then the issue gate, which
chooses after the HALTED test of the same event (R20, R30). -/
def State.settle (s : State) : State := gate 16 s.advance.startIdle

end Sys2Proof.Machine
end

