-- ==== Sys2Proof/Machine/LinkOps.lean ====
section
/-! DEFINITION. Operations of the host link: credit and ack, the replay ring, REPLAY requests, RECOVERY, sessions and
session loss, and the reset of the part (chapters 7 and 9). -/

namespace Sys2Proof.Machine

def State.setLink (s : State) (l : Link) : State := { s with link := l }

/-- R130 note 1: the number of the oldest frame in the replay ring; N where the ring is empty. -/
def Link.oldest (l : Link) : Byte := l.nextSeq - byteOf l.ring.length

/-- R141: the part's credit, its free receive slots. -/
def Link.credit (l : Link) : Byte := byteOf (8 - l.rx.length)

/-- R141: the ack every frame of the part carries. -/
def Link.ack (l : Link) : Byte := l.expect - 1

/-- R142: an inbound ack lies in the ack window, O − 1 through N − 1. -/
def Link.inWindow (l : Link) (a : Byte) : Bool := (a - (l.oldest - 1)).toNat ≤ l.ring.length

/-- R142: how many frames an ack in the window removes. -/
def Link.acked (l : Link) (a : Byte) : Nat := (a - (l.oldest - 1)).toNat

/-- R142: the resend point once the `k` oldest frames have left the ring. -/
def Link.resendAfter (l : Link) (k : Nat) : Option Byte :=
  match l.resend with
  | some r =>
    if (r - l.oldest).toNat < k then (if k < l.ring.length then some (l.oldest + byteOf k) else none) else some r
  | none => none

/-- R142: an ack in the window is taken. -/
def State.takeAck (s : State) (a : Byte) : State :=
  let l := s.link
  let k := l.acked a
  if k = 0 then s
  else s.setLink
    { l with
      ring := l.ring.drop k
      expiries := 0
      resend := l.resendAfter k
      ackTimer := if k < l.ring.length then some (s.now + s.ackTimeout) else none }

/-- R140: REPLAY asked for. -/
def State.askReplay (s : State) : State :=
  match s.link.replayMark with
  | none => s.setLink
    { s.link with
      replayMark := some s.link.expect
      replays := s.link.replays ++ [s.link.expect]
      markTimer := some (s.now + s.ackTimeout) }
  | some _ => s

/-- R132: entry into TRAINING. -/
def State.enterTraining (s : State) : State :=
  s.setLink
    { s.link with
      state := .training
      offers := s.link.offers + 1
      offerTimer := some (s.now + offerTime)
      stateTimer := some (s.now + trainingTime) }

/-- R132, R133: TRAINING or RECOVERY is left for DOWN. An offer not yet sent is dropped (R148). -/
def State.enterDown (s : State) : State :=
  s.setLink { s.link with state := .down, offers := 0, offerTimer := none, stateTimer := none }

/-! ### session loss (R150, R151) -/

/-- R150: the link controller at session loss. Unsent REPLAYs and TRAIN answers of the session go with it (log 16). -/
def Link.loseSession (l : Link) : Link :=
  { l with
    ring := []
    rx := []
    resend := none
    replayMark := none
    replays := []
    answers := []
    ackTimer := none
    markTimer := none
    expiries := 0
    updateOwed := false
    live := false }

/-- R91: the entries that remain at session loss. -/
def sessionList (l : List Entry) : List Entry :=
  relink ((l.filter fun e => e.state = .issued).map fun e => { e with tagHeld := false })

/-- R57, R64: a write slot at session loss: freed where its owner is a WAITING entry. -/
def slotAtLoss (l : List Entry) (w : Option WriteSlot) : Option WriteSlot :=
  match w with
  | some x => if l.any (fun e => e.id = x.owner && e.state = .waiting) then none else some x
  | none => none

/-- R125: a response slot at session loss. -/
def RespSlot.atLoss : RespSlot → RespSlot
  | .free => .free
  | .reserved o _ => .reserved o true
  | .filled .. => .free

/-- R169, R167: the management unit at session loss. A RESET-PART that has been taken and waits for its frame still waits
(R130), also where a host TRAIN in UP loses the session and opens the next (log 30). -/
def Mgmt.loseSession (m : Mgmt) : Mgmt :=
  { m with
    queue := []
    replies := []
    busyHold := none
    commit := { m.commit with replyOwed := if m.commit.state = .none then m.commit.replyOwed else some .dropped } }

/-- R181: the part state machine at session loss. -/
def Part.loseSession (p : Part) : Part :=
  match p.state with
  | .serving | .starting | .resuming => { p with state := .draining, stage := some .list, retainOwed := none }
  | .draining => { p with retainOwed := none }
  | .retained => p

/-- R150, R151: session loss, in every block in the one event; the SESSION-LOST report comes after the ring is cleared
(R189). -/
def State.loseSession (s : State) : State :=
  let lost := s.link.session
  let s := { s with
    link := s.link.loseSession
    adm := { tags := Table.fill 16 [], slots := s.adm.slots.mapIdx fun _ w => slotAtLoss s.sched.list w, replyHold := none }
    sched := { s.sched with list := sessionList s.sched.list, cancelHold := none }
    resp := { slots := s.resp.slots.mapIdx fun _ x => x.atLoss, orders := Table.fill 16 [] }
    mgmt := { s.mgmt.loseSession with part := s.mgmt.part.loseSession } }
  s.report (.sessionLost lost)

/-- R149: the hold timer expires: the live session is lost, with all that follows in the event (R91, R175). -/
def State.holdExpires (s : State) : State :=
  let s := s.setLink { s.link with holdTimer := none }
  if s.link.live then s.loseSession.settle else s

/-! ### sessions (R135, R136) -/

/-- R136: the number of the next session. -/
def nextSession (n : Byte) : Byte := if n = 255 then 1 else n + 1

/-- R136: a new session is opened, with the NEW answer. -/
def State.openSession (s : State) (credit : Byte) : State :=
  let n := nextSession s.link.session
  s.setLink
    { s.link with
      session := n
      live := true
      expect := 0
      nextSeq := 0
      ring := []
      rx := []
      resend := none
      replayMark := none
      markTimer := none
      ackTimer := none
      expiries := 0
      sendLimit := credit
      state := .up
      offerTimer := none
      stateTimer := none
      holdTimer := none
      offers := 0
      answers := s.link.answers ++ [{ mode := .new, session := n, expect := 0 }] }

/-- R136, R137: the live session, if any, is lost, and a new one opened. -/
def State.newSession (s : State) (credit : Byte) : State :=
  (if s.link.live then s.loseSession.settle else s).openSession credit

/-- R135: the session is resumed. -/
def State.resumeSession (s : State) (ack credit : Byte) : State :=
  let l := s.link
  let k := l.acked ack
  let left := l.ring.drop k
  s.setLink
    { l with
      ring := left
      expiries := 0
      sendLimit := credit
      resend := if left = [] then none else some (l.oldest + byteOf k)
      state := .up
      holdTimer := none
      offerTimer := none
      stateTimer := none
      offers := 0
      ackTimer := if left = [] then none else some (s.now + s.ackTimeout)
      answers := l.answers ++ [{ mode := .resume, session := l.session, expect := l.expect }] }

/-! ### the reset of the part (R172, R24) -/

/-- R172: the start kind a reset has. -/
def State.startKind (s : State) : StartKind :=
  if s.mgmt.part.state = .retained ∧ s.port.mode = .held then .warm else .cold

/-- R24: the stored chunks at a reset: not guaranteed after a cold start, every one kept as at the hold after a warm one.
-/
def State.arrayAtReset (s : State) (kind : StartKind) : Store :=
  match kind with
  | .cold => []
  | .warm => s.array

/-- R172: a reset is taken: every block takes its reset values, and all work in flight is abandoned. The part state
machine changes at the end of the reset (log 4). -/
def State.beginReset (s : State) : State :=
  let kind := s.startKind
  { s with
    rst := some kind
    link := Link.reset
    adm := Admission.reset
    sched := Sched.reset
    port := Port.reset kind
    array := s.arrayAtReset kind
    ren := RenewalUnit.reset
    resp := Response.reset
    mgmt := Mgmt.reset s.mgmt.part }

/-- R18, R23, R24: the array port at the end of a reset: T_INIT starts, or the wake is issued. -/
def State.startPort (s : State) (kind : StartKind) : State :=
  match kind with
  | .cold => { s with port := { s.port with tInit := some (s.now + tInitTime) } }
  | .warm => s.wake

/-- R172, R190, R131: the end of a reset of the kind given. -/
def State.endReset (s : State) (kind : StartKind) : State :=
  let s := { s with rst := none }
  let s := s.startPort kind
  let s := s.setPart { state := .starting, stage := none, retainOwed := none, lastStart := kind }
  let s := s.report (.started kind)
  if s.laneSignal then s.enterTraining else s

/-- R130, R172: a reset that is taken and ends at one instant, a RESET-PART's. -/
def State.resetPart (s : State) : State :=
  let kind := s.startKind
  s.beginReset.endReset kind

/-! ### leaving UP (R133) -/

/-- R130: a taken RESET-PART whose frame has not been sent is taken at once when the link leaves UP. -/
def State.resetIfTaken (s : State) : State := if s.mgmt.resetTaken then s.resetPart else s

/-- R133, R149: UP is left for RECOVERY. With a hold time of 0 the session is lost at once (R149), and with a RESET-PART
waiting the reset is taken at once (R130). Where both hold the manual gives no order: the session loss and all that follows
in its event come first, so that an idle part may be RETAINED and HELD by then and the start WARM (R172; log 29). -/
def State.enterRecovery (s : State) (cause : RecoveryCause) : State :=
  let s := s.report (.linkRecovery cause)
  let s := s.setLink
    { s.link with
      state := .recovery
      ackTimer := none
      markTimer := none
      resend := none
      replayMark := none
      replays := []
      updateOwed := false
      holdTimer := some (s.now + s.holdTime)
      offers := s.link.offers + 1
      offerTimer := some (s.now + offerTime)
      stateTimer := some (s.now + recoveryTime) }
  let s := if s.holdTime = 0 then s.holdExpires else s
  s.resetIfTaken

/-! ### inbound frames in UP (R138, R141) -/

/-- R138: the ack and the credit of a frame taken in UP. -/
def State.takeAckCredit (s : State) (f : Frame) : State :=
  let s := s.takeAck f.ack
  s.setLink { s.link with sendLimit := f.credit }

/-- R138: a frame with a good check in UP: an ack outside the window takes the link to RECOVERY and the frame is
discarded; otherwise its ack and credit are taken and it is handled by `k`. -/
def State.takeUpFrame (s : State) (f : Frame) (k : State → State) : State :=
  if s.link.inWindow f.ack then k (s.takeAckCredit f) else s.enterRecovery .ackRange

/-- R139: a receive slot becomes free as its frame is taken (R141: update owed becomes yes). -/
def State.dropRx (s : State) (p : RxFrame → Bool) : State :=
  s.setLink { s.link with rx := s.link.rx.eraseP p, updateOwed := true }

end Sys2Proof.Machine
end

