-- ==== Sys2Proof/Machine/AdmissionCmds.lean ====
section
/-! DEFINITION. The admission commands READ, WRITE and MASKED_WRITE (chapters 2 and 3), and CANCEL (section 4.6). -/

namespace Sys2Proof.Machine

/-! ### windows and translation (section 2.1) -/

/-- Bytes per MiB. -/
def mib : Nat := 1048576

/-- Bytes of a block. -/
def BlockSize.bytes (sz : BlockSize) : Nat := sz.chunks * 32

/-- R34: the first logical byte of a request's block. -/
def blockStart (k : ReqKind) (q : DataReq) : Nat :=
  match k with
  | .read => q.address - q.address % q.size.bytes
  | _ => q.address

/-- R34: a valid window's logical range contains the block of `len` bytes at `start`. -/
def Window.contains (w : Window) (start len : Nat) : Bool :=
  w.valid && w.logicalBase * mib ≤ start && start + len ≤ (w.logicalBase + 2 ^ w.sizeExp) * mib

/-- R34: the request's window in the active table. -/
def State.lookup (s : State) (start len : Nat) : Option Window :=
  s.mgmt.active.windows.rows.find? fun w => w.contains start len

/-- R35: the physical chunk number of a logical byte of a window. -/
def Window.translate (w : Window) (addr : Nat) : Nat := (w.physicalBase * mib + (addr - w.logicalBase * mib)) / 32

/-- R2: the bank of a physical chunk number. -/
def bankOf (m : MapMode) (p : Nat) : BankNo :=
  match m with
  | .bankFirst => Fin.ofNat 16 (p / 64)
  | .pageFirst => Fin.ofNat 16 (p / 2097152)

/-- R2: the page of a physical chunk number. -/
def pageOf (m : MapMode) (p : Nat) : Nat :=
  match m with
  | .bankFirst => p / 1024
  | .pageFirst => (p / 64) % 32768

/-- R2: the chunk in page of a physical chunk number. -/
def chunkOf (p : Nat) : Nat := p % 64

/-! ### the nine checks (R50) -/

/-- R52: check 1. -/
def State.partCheck (s : State) : Option RefuseReason :=
  match s.mgmt.part.state with
  | .serving => if s.mgmt.commit.state ≠ .none ∧ s.mgmt.commit.mapChange then some .notReady else none
  | .starting | .resuming => some .notReady
  | .draining | .retained => some .retained

/-- The active requester entry. -/
def State.reqEntry (s : State) (r : ReqNo) : Requester := s.mgmt.active.requesters.get r

/-- R46, R55: a write is detached. -/
def State.detached (s : State) (k : ReqKind) (r : ReqNo) : Bool := k ≠ .read && (s.reqEntry r).ackPoint = .admission

/-- R36: the set a request's requester must be in. -/
def Window.accessSet (w : Window) (k : ReqKind) : BitVec 16 :=
  match k with
  | .read => w.readSet
  | _ => w.writeSet

/-- R50: checks 3 to 9 of a well-formed request: its window, or the reason of the first that fails. -/
def State.tableChecks (s : State) (k : ReqKind) (q : DataReq) : Except RefuseReason Window :=
  if !(s.reqEntry q.requester).enabled then .error .requesterOff
  else match s.lookup (blockStart k q) q.size.bytes with
    | none => .error .noWindow
    | some w =>
      if !(w.accessSet k).getLsbD q.requester.val then .error .denied
      else if q.tag ∈ s.adm.tags.get q.requester then .error .tagInUse
      else if !s.detached k q.requester && (s.reqEntry q.requester).quota ≤ (s.adm.tags.get q.requester).length then
        .error .quota
      else if 64 ≤ s.sched.list.length then .error .full
      else if k ≠ .read ∧ s.freeWriteSlots = 0 then .error .noWriteSlot
      else .ok w

/-- R50: the nine checks in order. -/
def State.admissionChecks (s : State) (k : ReqKind) (body : List Byte) : Except RefuseReason (DataReq × Window) :=
  match s.partCheck with
  | some r => .error r
  | none =>
    match parseReq k body with
    | none => .error .malformed
    | some q =>
      match s.tableChecks k q with
      | .error r => .error r
      | .ok w => .ok (q, w)

/-! ### refusal and admission -/

/-- The kind code of a data request. -/
def ReqKind.code : ReqKind → Byte
  | .read => kindRead | .write => kindWrite | .masked => kindMaskedWrite

/-- R50, R62: a request is refused; the REFUSE echoes requester and tag as received (R193). -/
def State.refuse (s : State) (k : ReqKind) (body : List Byte) (reason : RefuseReason) : State :=
  let f := OutFrame.refuse (s.echoByte body 0) (s.echoByte body 1) k.code reason
  ({ s with adm := { s.adm with replyHold := some f } }).echoed body 2

/-- R58: the pending entry of an admitted request. -/
def State.newEntry (s : State) (k : ReqKind) (q : DataReq) (w : Window) : Entry :=
  let m := s.timing.mapMode
  let p := w.translate (blockStart k q)
  let e : Entry :=
    { id := s.sched.nextId, requester := q.requester, tag := q.tag, tagHeld := !s.detached k q.requester, kind := k
      bank := bankOf m p, page := pageOf m p, first := chunkOf p, size := q.size
      lead := if k = .read then some ((q.address - blockStart k q) / 32) else none
      returnOrder := (s.reqEntry q.requester).returnOrder, priority := q.priority, policy := w.policy
      writeSlot := if k = .read then none else s.adm.slots.findIdx? Option.isNone
      respSlot := none, blockedBy := none, bypass := 0, overdue := false, state := .waiting }
  { e with blockedBy := youngestConflict s.sched.list e }

/-- R56: the write slot of an admitted write takes its data and enables; positions beyond the block are off. -/
def State.fillSlot (s : State) (q : DataReq) (e : Entry) : State :=
  match e.writeSlot with
  | some i =>
    let w : WriteSlot :=
      { data := q.data, enables := q.enables ++ List.replicate (256 - q.enables.length) false, owner := e.id }
    { s with adm := { s.adm with slots := s.adm.slots.set i (some w) } }
  | none => s

/-- R59: the tag and the order-list place of a tag-holding request. -/
def State.holdTag (s : State) (q : DataReq) : State :=
  let s := { s with adm := { s.adm with tags := s.adm.tags.set q.requester (s.adm.tags.get q.requester ++ [q.tag]) } }
  s.setOrder q.requester
    (s.resp.orders.get q.requester ++ [{ tag := q.tag, mode := (s.reqEntry q.requester).order, state := .owed }])

/-- R58, R60, R77: the entry is appended at the young end and its bank's idle-close timer stops. -/
def State.append (s : State) (e : Entry) : State :=
  { s with sched := { s.sched with
      list := s.sched.list ++ [e]
      idle := s.sched.idle.set e.bank .stopped
      nextId := s.sched.nextId + 1 } }

/-- R58 to R61: a request is admitted. -/
def State.admitRequest (s : State) (k : ReqKind) (q : DataReq) (w : Window) : State :=
  let e := s.newEntry k q w
  let s := (s.fillSlot q e).append e
  if e.tagHeld then s.holdTag q
  else { s with adm := { s.adm with replyHold := some (.done q.requester q.tag .ok) } }

/-- R50: one data request, already out of its receive slot, is checked, and admitted or refused. -/
def State.takeRequest (s : State) (k : ReqKind) (body : List Byte) : State :=
  match s.admissionChecks k body with
  | .error reason => s.refuse k body reason
  | .ok (q, w) => (s.admitRequest k q w).settle

/-- A frame bound to the admission unit (R147). -/
def RxFrame.isData (f : RxFrame) : Bool := (dataKind f.kind).isSome

/-- R50, R147: the admission unit takes the oldest frame bound to it, where that is a request of kind `k` and its reply
hold is absent. -/
def State.admission (s : State) (k : ReqKind) : State :=
  match s.link.rx.find? RxFrame.isData with
  | some f =>
    if dataKind f.kind = some k ∧ s.adm.replyHold = none then (s.dropRx RxFrame.isData).takeRequest k f.body else s
  | none => s

/-- READ (R50). -/
def execRead (s : State) : Host.Outcome State Fault Refusal := s.event fun s => s.admission .read

/-- WRITE (R50). -/
def execWrite (s : State) : Host.Outcome State Fault Refusal := s.event fun s => s.admission .write

/-- MASKED_WRITE (R50). -/
def execMaskedWrite (s : State) : Host.Outcome State Fault Refusal := s.event fun s => s.admission .masked

/-! ### CANCEL (R87, R88) -/

/-- R87, R90: a CANCEL-REPLY into the cancel reply hold, echoing requester and tag as received. -/
def State.cancelReply (s : State) (body : List Byte) (res : CancelResult) : State :=
  let f := OutFrame.cancelReply (s.echoByte body 0) (s.echoByte body 1) res
  ({ s with sched := { s.sched with cancelHold := some f } }).echoed body 2

/-- R87: the tag-holding entry a cancel names. -/
def State.cancelTarget (s : State) (r : ReqNo) (tag : Byte) : Option Entry :=
  s.sched.list.find? fun e => e.requester = r && e.tag = tag && e.tagHeld

/-- R88, R120: an accepted cancel. -/
def State.acceptCancel (s : State) (e : Entry) : State :=
  (((s.freeWriteSlot e).removeEntry e).readyPlace e.requester e.tag .void).settle

/-- R87: the rows of the table, for a cancel already out of its receive slot. -/
def State.takeCancel (s : State) (body : List Byte) : State :=
  match body with
  | [r, tag] =>
    if h : r.toNat < 16 then
      match s.cancelTarget ⟨r.toNat, h⟩ tag with
      | some e => if e.state = .waiting then s.acceptCancel e else s.cancelReply body .tooLate
      | none => s.cancelReply body (if tag ∈ s.adm.tags.get ⟨r.toNat, h⟩ then .tooLate else .unknown)
    else s.cancelReply body .unknown
  | _ => s.cancelReply body .unknown

/-- A frame bound to the request scheduler (R147). -/
def RxFrame.isCancel (f : RxFrame) : Bool := f.kind = kindCancel

/-- CANCEL (R87, R90). -/
def execCancel (s : State) : Host.Outcome State Fault Refusal :=
  s.event fun s =>
    match s.link.rx.find? RxFrame.isCancel with
    | some f => if s.sched.cancelHold = none then (s.dropRx RxFrame.isCancel).takeCancel f.body else s
    | none => s

end Sys2Proof.Machine
end

