-- ==== Sys2Proof/Machine/LinkCmds.lean ====
section
/-! DEFINITION. The link commands: lane signal, inbound frames, link timers and the transmit arbiter (chapter 7). -/

namespace Sys2Proof.Machine

/-! ### reset pin (R172) -/

/-- RESET_N_ASSERT (R172). While RESET_N is already asserted it is no event (log 4). -/
def execResetNAssert (s : State) : Host.Outcome State Fault Refusal := s.event fun s => s.beginReset

/-- RESET_N_RELEASE (R172, R18, R23, R190). -/
def execResetNRelease (s : State) : Host.Outcome State Fault Refusal :=
  match s.rst with
  | some kind => .next (s.endReset kind)
  | none => .next s

/-! ### lane signal (R131 to R133) -/

/-- LANE_SIGNAL_PRESENT (R131): the signal becomes present; DOWN is left for TRAINING. During a reset only the pin
changes, and the end of the reset finds it (R131). -/
def execLaneSignalPresent (s : State) : Host.Outcome State Fault Refusal :=
  let t := { s with laneSignal := true }
  .next (if s.laneSignal = false ∧ s.rst = none ∧ s.link.state = .down then t.enterTraining else t)

/-- SIGNAL_LOSS (R132, R133). -/
def execSignalLoss (s : State) : Host.Outcome State Fault Refusal :=
  let t := { s with laneSignal := false }
  .next (if s.rst.isSome then t
    else match s.link.state with
      | .up => t.enterRecovery .signalLoss
      | .training => t.enterDown
      | .recovery | .down => t)

/-! ### inbound frames (section 7.4) -/

/-- BAD_CHECK_FRAME (R138): counted in every link state; in UP a REPLAY is asked for (R140). -/
def execBadCheckFrame (bytes : List Byte) (s : State) : Host.Outcome State Fault Refusal :=
  s.event fun s =>
    if (parseFrame bytes).isNone then
      let s := s.count 8
      if s.link.state = .up then s.askReplay else s
    else s

/-- R139, R147: the frame numbered E is accepted into a free slot and bound; one of unknown kind is discarded at its
binding (log 13). -/
def State.acceptFrame (s : State) (f : Frame) : State :=
  let s := s.setLink
    { s.link with
      expect := s.link.expect + 1
      replayMark := none
      markTimer := none
      updateOwed := true
      rx := if hasDestination f.kind then s.link.rx ++ [{ kind := f.kind, body := f.body }] else s.link.rx }
  if hasDestination f.kind then s else s.report (.linkProtocol .unknownKind)

/-- R139: a sequenced frame by its number against E. -/
def State.takeSequenced (s : State) (f : Frame) : State :=
  let d := (f.seq - s.link.expect).toNat
  if d = 0 then
    if s.link.rx.length < 8 then s.acceptFrame f else (s.report (.linkProtocol .noSlot)).askReplay
  else if d < 128 then s.askReplay
  else s.setLink { s.link with updateOwed := true }

/-- INBOUND_SEQUENCED_FRAME (R138, R139). -/
def execInboundSequencedFrame (bytes : List Byte) (s : State) : Host.Outcome State Fault Refusal :=
  s.event fun s =>
    match parseFrame bytes with
    | some f =>
      if isControl f.kind = false ∧ s.link.state = .up then s.takeUpFrame f fun s => s.takeSequenced f else s
    | none => s

/-- HOST_ACK (R138, R142, R144). A wrong body length changes nothing here (R193). -/
def execHostAck (bytes : List Byte) (s : State) : Host.Outcome State Fault Refusal :=
  s.event fun s =>
    match parseFrame bytes with
    | some f => if f.kind = kindAck ∧ s.link.state = .up then s.takeUpFrame f id else s
    | none => s

/-- R146: a host REPLAY naming `n`. -/
def State.hostReplay (s : State) (n : Byte) : State :=
  if (n - s.link.oldest).toNat < s.link.ring.length then
    (s.setLink { s.link with resend := some n }).count 9
  else s.enterRecovery .replayRange

/-- HOST_REPLAY (R138, R146, R193). -/
def execHostReplay (bytes : List Byte) (s : State) : Host.Outcome State Fault Refusal :=
  s.event fun s =>
    match parseFrame bytes with
    | some f =>
      if f.kind = kindReplay ∧ s.link.state = .up then
        s.takeUpFrame f fun s =>
          match f.body with
          | [n] => s.hostReplay n
          | _ => s
      else s
    | none => s

/-- R193: the mode of a host TRAIN; any value other than 01h is NEW. -/
def trainModeOf (b : Byte) : TrainMode := if b = 1 then .resume else .new

/-- R135: a host TRAIN with this mode, session number and last accepted sequence resumes the session. -/
def Link.resumes (l : Link) (mode : TrainMode) (session ack : Byte) : Bool :=
  mode = .resume && l.live && session = l.session && l.inWindow ack

/-- R135, R136: a host TRAIN taken in TRAINING or RECOVERY. -/
def State.takeTrain (s : State) (mode : TrainMode) (session ack credit : Byte) : State :=
  if s.link.resumes mode session ack then s.resumeSession ack credit else s.newSession credit

/-- R137: a host TRAIN taken in UP. -/
def State.takeTrainUp (s : State) (mode : TrainMode) (session credit : Byte) : State :=
  if mode = .resume ∧ s.link.live ∧ session = s.link.session then
    s.setLink
      { s.link with
        answers := s.link.answers ++ [{ mode := .resume, session := s.link.session, expect := s.link.expect }] }
  else s.newSession credit

/-- R131, R135 to R137: a host TRAIN with a good check. In DOWN it takes the link to TRAINING first. One with another
body length than a TRAIN's is discarded (R193; log 17). -/
def State.hostTrain (s : State) (f : Frame) : State :=
  let s := if s.link.state = .down then s.enterTraining else s
  match f.body with
  | [_, session, mode, _] =>
    if s.link.state = .up then s.takeTrainUp (trainModeOf mode) session f.credit
    else s.takeTrain (trainModeOf mode) session f.ack f.credit
  | _ => s

/-- HOST_TRAIN (R131, R135 to R137). -/
def execHostTrain (bytes : List Byte) (s : State) : Host.Outcome State Fault Refusal :=
  s.event fun s =>
    match parseFrame bytes with
    | some f => if f.kind = kindTrain then s.hostTrain f else s
    | none => s

/-! ### timers (R132, R133, R140, R145, R149) -/

/-- R145: the ack timer expires. -/
def State.ackExpires (s : State) : State :=
  let n := s.link.expiries + 1
  let s := s.setLink { s.link with expiries := n }
  if n < 4 then
    (s.setLink { s.link with resend := some s.link.oldest, ackTimer := some (s.now + s.ackTimeout) }).count 9
  else s.enterRecovery .ackTimeout

/-- ACK_TIMER_EXPIRY (R145). -/
def execAckTimerExpiry (s : State) : Host.Outcome State Fault Refusal :=
  s.event fun s =>
    match s.link.ackTimer with
    | some d => if s.link.state = .up then (s.reach d).ackExpires else s
    | none => s

/-- REPLAY_MARK_TIMER_EXPIRY (R140). -/
def execReplayMarkTimerExpiry (s : State) : Host.Outcome State Fault Refusal :=
  s.event fun s =>
    match s.link.markTimer with
    | some d => (s.reach d).setLink { s.link with replayMark := none, markTimer := none }
    | none => s

/-- HOLD_TIMER_EXPIRY (R149). -/
def execHoldTimerExpiry (s : State) : Host.Outcome State Fault Refusal :=
  s.event fun s =>
    match s.link.holdTimer with
    | some d => (s.reach d).holdExpires
    | none => s

/-- OFFER_TIMER_EXPIRY (R132, R133). -/
def execOfferTimerExpiry (s : State) : Host.Outcome State Fault Refusal :=
  s.event fun s =>
    match s.link.offerTimer with
    | some d =>
      let s := s.reach d
      s.setLink { s.link with offers := s.link.offers + 1, offerTimer := some (s.now + offerTime) }
    | none => s

/-- TRAINING_TIMEOUT (R132). -/
def execTrainingTimeout (s : State) : Host.Outcome State Fault Refusal :=
  s.event fun s =>
    match s.link.stateTimer with
    | some d => if s.link.state = .training then (s.reach d).enterDown else s
    | none => s

/-- RECOVERY_TIMEOUT (R133): the session stays live while the hold timer runs. -/
def execRecoveryTimeout (s : State) : Host.Outcome State Fault Refusal :=
  s.event fun s =>
    match s.link.stateTimer with
    | some d => if s.link.state = .recovery then (s.reach d).enterDown else s
    | none => s

end Sys2Proof.Machine
end

