-- ==== Sys2Proof/Machine/ManageCmds.lean ====
section
/-! DEFINITION. MANAGE_FRAME and the commands taken from the management queue (chapters 8 to 10). -/

namespace Sys2Proof.Machine

/-! ### MANAGE_FRAME (R153) -/

/-- A frame bound to the management unit (R147). -/
def RxFrame.isManage (f : RxFrame) : Bool := f.kind = kindManage

/-- R153: a BUSY reply into the busy hold for a request that found the queue full. -/
def State.busyReply (s : State) (body : List Byte) : State :=
  let b : BusyReply := { frame := .manageReply (s.echoOf body) .busy .none 0 [], ahead := s.mgmt.replies.length }
  ({ s with mgmt := { s.mgmt with busyHold := some b } }).echoed body 5

/-- MANAGE_FRAME (R153): appended, or answered BUSY; with the queue full and the busy hold present the frame stays in its
receive slot. -/
def execManageFrame (s : State) : Host.Outcome State Fault Refusal :=
  s.event fun s =>
    match s.link.rx.find? RxFrame.isManage with
    | some f =>
      if s.mgmt.queue.length < 4 then
        ({ s with mgmt := { s.mgmt with queue := s.mgmt.queue ++ [f.body] } }).dropRx RxFrame.isManage
      else if s.mgmt.busyHold = none then (s.busyReply f.body).dropRx RxFrame.isManage
      else s
    | none => s

/-! ### the object space (R156) -/

/-- The objects of R156. -/
inductive Obj where
  | ident
  | partState
  | partControl
  | timing
  | window (n : Fin 32)
  | requester (n : ReqNo)
  | renewalStatus
  | lapseClear
  | linkStatus
  | linkSettings
  | faultCounters
  | noticeSettings
  | commitStatus
deriving DecidableEq, Repr

/-- R156: the object of a number. -/
def objectOf (n : Nat) : Option Obj :=
  if n = 0x00 then some .ident
  else if n = 0x01 then some .partState
  else if n = 0x02 then some .partControl
  else if n = 0x08 then some .timing
  else if 0x10 ≤ n ∧ n ≤ 0x2F then some (.window (Fin.ofNat 32 (n - 0x10)))
  else if 0x30 ≤ n ∧ n ≤ 0x3F then some (.requester (Fin.ofNat 16 (n - 0x30)))
  else if n = 0x40 then some .renewalStatus
  else if n = 0x41 then some .lapseClear
  else if n = 0x48 then some .linkStatus
  else if n = 0x49 then some .linkSettings
  else if n = 0x50 then some .faultCounters
  else if n = 0x58 then some .noticeSettings
  else if n = 0x59 then some .commitStatus
  else none

/-- R156: the staged objects. -/
def Obj.staged : Obj → Bool
  | .timing | .window _ | .requester _ | .linkSettings => true
  | _ => false

/-- R156: the objects that carry actions. -/
def Obj.acts : Obj → Bool
  | .partControl | .lapseClear | .faultCounters => true
  | _ => false

/-- R156: the last index of an object's index range. -/
def Obj.lastIndex : Obj → Nat
  | .renewalStatus => 15
  | .faultCounters => 10
  | _ => 0

/-- The actions of R160. -/
inductive Act where | enterRetain | leaveRetain | resetPart | lapseClear | clear
deriving DecidableEq, Repr

/-- R194, action values: the action of an object and a code. -/
def actOf (o : Obj) (code : Nat) : Option Act :=
  match o with
  | .partControl => if code = 1 then some .enterRetain else if code = 2 then some .leaveRetain
      else if code = 3 then some .resetPart else none
  | .lapseClear => if code = 1 then some .lapseClear else none
  | .faultCounters => if code = 1 then some .clear else none
  | _ => none

/-- R194: the value length of an action. -/
def Act.valueLength : Act → Nat
  | .lapseClear => 3
  | _ => 1

/-- The action a request's body names, if any. -/
def bodyAct (body : List Byte) : Option Act :=
  match objectOf (objOf body), (valueOf body)[0]? with
  | some o, some c => actOf o c.toNat
  | _, _ => none

/-- The row of the command table that a request at the old end of the queue is (log 25). -/
inductive Row where
  | get | set | setNotice | commit | discard | enterRetain | leaveRetain | resetPart | lapseClear | clear | unknown
deriving DecidableEq, Repr

def rowOf (body : List Byte) : Row :=
  match mopOf body with
  | .get => .get
  | .set => if objectOf (objOf body) = some .noticeSettings then .setNotice else .set
  | .commit => .commit
  | .discard => .discard
  | .action =>
    match bodyAct body with
    | some .enterRetain => .enterRetain
    | some .leaveRetain => .leaveRetain
    | some .resetPart => .resetPart
    | some .lapseClear => .lapseClear
    | some .clear => .clear
    | none => .unknown
  | .other => .unknown

/-! ### the tests of R154 -/

/-- R43: a requester acts as a manager. -/
def State.actsAsManager (s : State) (r : Nat) : Bool :=
  if h : r < 16 then
    let e := s.mgmt.active.requesters.get ⟨r, h⟩
    e.enabled && e.manager
  else false

/-- R154 test 6 for a SET: the value spells a value of the object. -/
def setValueGood (o : Obj) (v : List Byte) : Bool :=
  match o with
  | .timing => (parseTiming v).isSome
  | .window _ => (parseWindow v).isSome
  | .requester _ => (parseRequester v).isSome
  | .linkSettings => (parseLinkSettings v).isSome
  | .noticeSettings => (parseNoticeSettings v).isSome
  | _ => false

/-- R154 tests 5 and 6 for an operation on an object. The index of CLEAR is not read (R156 note 2). -/
def objectTests (op : MOp) (o : Obj) (body : List Byte) : Option MStatus :=
  match op with
  | .get => if idxOf body ≤ o.lastIndex then none else some .badValue
  | .set =>
    if !(o.staged || o = .noticeSettings) || (o.staged && copyActive body) then some .readOnly
    else if idxOf body ≤ o.lastIndex && setValueGood o (valueOf body) then none
    else some .badValue
  | .action =>
    if !o.acts then some .readOnly
    else match bodyAct body with
      | some a =>
        if (idxOf body ≤ o.lastIndex || a = .clear) && (valueOf body).length = a.valueLength then none else some .badValue
      | none => some .badValue
  | .commit | .discard | .other => none

/-- R154: the status of the first of the six tests that fails. -/
def State.requestTests (s : State) (body : List Byte) : Option MStatus :=
  let op := mopOf body
  if !formGood body then some .badValue
  else if op ≠ .get ∧ !s.actsAsManager (fieldAt body 0 1) then some .denied
  else if (op = .set ∨ op = .commit ∨ op = .discard) ∧ s.mgmt.commit.state ≠ .none then some .busy
  else if op = .commit ∨ op = .discard then none
  else match objectOf (objOf body) with
    | none => some .unknownObject
    | some o => objectTests op o body

/-! ### taking a request (R153) -/

/-- R130, R153: the management unit may take a request. -/
def Mgmt.mayTake (m : Mgmt) : Bool := m.replies = [] && !m.resetTaken

/-- R153, R154: the request at the old end of the queue is taken, where it is of the row given. A request that fails a
test is answered with the test's status and changes nothing; one that passes is executed by `run`. -/
def State.takeRow (s : State) (row : Row) (run : State → List Byte → Echo → State) : State :=
  match s.mgmt.queue with
  | body :: rest =>
    if s.mgmt.mayTake && rowOf body = row then
      let e := s.echoOf body
      let t := ({ s with mgmt := { s.mgmt with queue := rest } }).echoed body 5
      match s.requestTests body with
      | some st => t.reply e st
      | none => run t body e
    else s
  | [] => s

/-! ### GET (R157, R194) -/

/-- R194: IDENT. -/
def State.identValue (s : State) : List Byte :=
  u16 0x3A71 ++ u16 0x4216 ++ [Config.revision] ++ [16] ++ u16 32768 ++ [32] ++ [64, 32, 32, 32, 16, 8, 32, 4, 16] ++
    [s.mgmt.part.lastStart.code]

/-- R130, R194: PART-STATE. -/
def State.partStateValue (s : State) : List Byte :=
  [s.mgmt.part.state.code, s.port.mode.code, if s.link.live then s.link.session else 0, byteOf s.sched.list.length,
   byteOf s.freeWriteSlots, byteOf s.freeSlots]

/-- R194: RENEWAL-STATUS of a bank. -/
def Renewal.bytes (r : Renewal) : List Byte := [BitVec.ofInt 8 r.debt, boolByte r.exempt, boolByte r.lapse]

/-- R130, R194: LINK-STATUS. -/
def State.linkStatusValue (s : State) : List Byte :=
  [s.link.state.code, s.link.session, boolByte s.link.live, s.link.expect, s.link.nextSeq, byteOf s.link.ring.length,
   s.link.sendLimit, byteOf s.link.expiries] ++ u16 (s.mgmt.counters.get 9)

/-- R168, R194: COMMIT-STATUS. -/
def Mgmt.commitStatusValue (m : Mgmt) : List Byte :=
  [m.status.lastResult.code, m.status.check.code, byteOf m.status.checkIndex, m.commit.state.code,
   boolByte m.status.stagedDiffers] ++ u16 m.status.epoch

/-- The copy of the staged objects that a GET's copy field chooses (R157). -/
def Mgmt.copy (m : Mgmt) (active : Bool) : Objects := if active then m.active else m.staged

/-- R157: the value of an object. -/
def State.getValue (s : State) (o : Obj) (index : Nat) (active : Bool) : List Byte :=
  match o with
  | .ident => s.identValue
  | .partState => s.partStateValue
  | .partControl | .lapseClear => []
  | .timing => (s.mgmt.copy active).timing.bytes
  | .window n => ((s.mgmt.copy active).windows.get n).bytes
  | .requester n => ((s.mgmt.copy active).requesters.get n).bytes
  | .renewalStatus => (s.ren.records.get (Fin.ofNat 16 index)).bytes
  | .linkStatus => s.linkStatusValue
  | .linkSettings => (s.mgmt.copy active).link.bytes
  | .faultCounters => u16 (s.mgmt.counters.get (Fin.ofNat 11 index))
  | .noticeSettings => s.mgmt.notice.bytes
  | .commitStatus => s.mgmt.commitStatusValue

/-- R157: a GET is answered OK with the value. -/
def State.doGet (s : State) (body : List Byte) (e : Echo) : State :=
  match objectOf (objOf body) with
  | some o => s.reply e .ok (s.getValue o (idxOf body) (copyActive body))
  | none => s.reply e .unknownObject

/-- GET (R157). -/
def execGet (s : State) : Host.Outcome State Fault Refusal := s.event fun s => s.takeRow .get State.doGet

/-! ### SET (R158, R159) -/

/-- R158: the staged copies with one object replaced by the value carried. -/
def Objects.setValue (o : Objects) (obj : Obj) (v : List Byte) : Objects :=
  match obj with
  | .timing => { o with timing := (parseTiming v).getD o.timing }
  | .window n => { o with windows := o.windows.set n ((parseWindow v).getD (o.windows.get n)) }
  | .requester n => { o with requesters := o.requesters.set n ((parseRequester v).getD (o.requesters.get n)) }
  | .linkSettings => { o with link := (parseLinkSettings v).getD o.link }
  | _ => o

/-- R158: new staged copies, with the staged-differs flag. -/
def Mgmt.setStaged (m : Mgmt) (o : Objects) : Mgmt :=
  { m with staged := o, status := { m.status with stagedDiffers := o ≠ m.active } }

/-- R158: a SET to a staged object. -/
def State.doSet (s : State) (body : List Byte) (e : Echo) : State :=
  match objectOf (objOf body) with
  | some o => ({ s with mgmt := s.mgmt.setStaged (s.mgmt.staged.setValue o (valueOf body)) }).reply e .ok
  | none => s.reply e .unknownObject

/-- SET (R158). -/
def execSet (s : State) : Host.Outcome State Fault Refusal := s.event fun s => s.takeRow .set State.doSet

/-- R159, R186: a SET to NOTICE-SETTINGS. -/
def State.doSetNotice (s : State) (body : List Byte) (e : Echo) : State :=
  ({ s with mgmt := { s.mgmt with notice := (parseNoticeSettings (valueOf body)).getD s.mgmt.notice } }).reply e .ok

/-- SET_NOTICE_SETTINGS (R159). -/
def execSetNoticeSettings (s : State) : Host.Outcome State Fault Refusal :=
  s.event fun s => s.takeRow .setNotice State.doSetNotice

/-! ### COMMIT (R162, R163) -/

/-- R41 test 1: the first valid window whose logical base is not a multiple of its size. -/
def badAlign (t : Table 32 Window) : Option Nat :=
  ((List.finRange 32).find? fun i => (t.get i).valid && (t.get i).logicalBase % 2 ^ (t.get i).sizeExp ≠ 0).map Fin.val

/-- R41 test 2: the first valid window whose physical range runs past 1024 MiB. -/
def badFit (t : Table 32 Window) : Option Nat :=
  ((List.finRange 32).find? fun i =>
    (t.get i).valid && 1024 < (t.get i).physicalBase + 2 ^ (t.get i).sizeExp).map Fin.val

/-- R41 test 3: two windows are valid and their logical ranges share a byte. -/
def Window.overlaps (v w : Window) : Bool :=
  v.valid && w.valid && v.logicalBase < w.logicalBase + 2 ^ w.sizeExp && w.logicalBase < v.logicalBase + 2 ^ v.sizeExp

/-- R41 test 3: the higher number of the first overlapping pair. -/
def badOverlap (t : Table 32 Window) : Option Nat :=
  ((List.finRange 32).find? fun j =>
    (List.finRange 32).any fun i => i < j && (t.get i).overlaps (t.get j)).map Fin.val

/-- R49: some entry is enabled and holds the manager right. -/
def hasManager (t : Table 16 Requester) : Bool := t.rows.any fun r => r.enabled && r.manager

/-- R17, R41, R49, R162: the first failing check of validation, with its index. -/
def validate (o : Objects) : Option (CommitCheck × Nat) :=
  match o.timing.badField with
  | some i => some (.timingRange, i)
  | none =>
    if o.timing.tDwell < o.timing.tOa then some (.timingDwell, 0)
    else if o.timing.tQuad < o.timing.tOo then some (.timingQuad, 0)
    else match badAlign o.windows, badFit o.windows, badOverlap o.windows with
      | some i, _, _ => some (.windowAlign, i)
      | none, some i, _ => some (.windowFit, i)
      | none, none, some i => some (.windowOverlap, i)
      | none, none, none => if hasManager o.requesters then none else some (.noManager, 0)

/-- R162: the class of an accepted commit. -/
inductive CommitClass where | immediate | timing | mapChange
deriving DecidableEq, Repr

def commitClass (active staged : Timing) : CommitClass :=
  if staged.mapMode ≠ active.mapMode then .mapChange else if staged ≠ active then .timing else .immediate

/-- The commit record of a commit in progress. -/
def State.setCommit (s : State) (c : CommitRecord) : State := { s with mgmt := { s.mgmt with commit := c } }

/-- R163: an accepted commit takes its commit point, or waits for the halt or for the list. -/
def State.acceptCommit (s : State) (e : Echo) : State :=
  let cls := commitClass s.mgmt.active.timing s.mgmt.staged.timing
  if cls = .immediate ∨ s.mgmt.part.state = .retained then
    (s.setCommit { state := .none, mapChange := false, replyOwed := some (.owed e) }).commitPoint
  else if cls = .timing then
    (s.setCommit { state := .haltWait, mapChange := false, replyOwed := some (.owed e) }).requestCommitHalt
  else s.setCommit { state := .listWait, mapChange := true, replyOwed := some (.owed e) }

/-- R162, R168: a COMMIT whose validation fails. -/
def State.rejectCommit (s : State) (e : Echo) (ck : CommitCheck) (i : Nat) : State :=
  ({ s with mgmt := { s.mgmt with
      status := { s.mgmt.status with lastResult := .invalid, check := ck, checkIndex := i } } }).replyInvalid e ck i

/-- R162, R163: a COMMIT that has passed the six tests. -/
def State.doCommit (s : State) (_body : List Byte) (e : Echo) : State :=
  if s.mgmt.part.state = .starting then s.reply e .notReady
  else match validate s.mgmt.staged with
    | some (ck, i) => s.rejectCommit e ck i
    | none => (s.acceptCommit e).settle

/-- COMMIT (R162 to R164). -/
def execCommit (s : State) : Host.Outcome State Fault Refusal := s.event fun s => s.takeRow .commit State.doCommit

/-! ### DISCARD (R161) -/

/-- R161. -/
def State.doDiscard (s : State) (_body : List Byte) (e : Echo) : State :=
  let m := { s.mgmt with staged := s.mgmt.active, status := { s.mgmt.status with stagedDiffers := false } }
  ({ s with mgmt := m }).reply e .ok

/-- DISCARD (R161). -/
def execDiscard (s : State) : Host.Outcome State Fault Refusal := s.event fun s => s.takeRow .discard State.doDiscard

/-! ### actions (R160) -/

/-- R174, R175: an ENTER-RETAIN. -/
def State.doEnterRetain (s : State) (_body : List Byte) (e : Echo) : State :=
  match s.mgmt.part.state with
  | .serving =>
    (s.setPart { s.mgmt.part with state := .draining, stage := some .list, retainOwed := some e }).settle
  | .draining | .retained => s.reply e .already
  | .starting | .resuming => s.reply e .notReady

/-- ENTER_RETAIN (R174). -/
def execEnterRetain (s : State) : Host.Outcome State Fault Refusal :=
  s.event fun s => s.takeRow .enterRetain State.doEnterRetain

/-- R179: the part state at the end of a drain. -/
def PortMode.afterDrain : PortMode → PartState
  | .init => .starting
  | .waking => .resuming
  | _ => .serving

/-- R179: the ABANDONED reply of an ENTER-RETAIN still owed. -/
def State.abandonReply (s : State) (owed : Option Echo) : State :=
  match owed with
  | some e => s.reply e .abandoned
  | none => s

/-- R179: a LEAVE-RETAIN ends a drain. -/
def State.endDrain (s : State) (e : Echo) : State :=
  let owed := s.mgmt.part.retainOwed
  let s := s.setPart { s.mgmt.part with state := s.port.mode.afterDrain, stage := none, retainOwed := none }
  let s := { s with port := { s.port with holdReq := false } }
  (s.withdrawDrainHalt.abandonReply owed).reply e .ok

/-- R178: a LEAVE-RETAIN. -/
def State.doLeaveRetain (s : State) (_body : List Byte) (e : Echo) : State :=
  match s.mgmt.part.state with
  | .retained =>
    let s := s.withdrawDrainHalt.wake
    ((s.setPart { s.mgmt.part with state := .resuming }).reply e .ok).settle
  | .draining => (s.endDrain e).settle
  | .serving | .resuming => s.reply e .already
  | .starting => s.reply e .notReady

/-- LEAVE_RETAIN (R178, R179). -/
def execLeaveRetain (s : State) : Host.Outcome State Fault Refusal :=
  s.event fun s => s.takeRow .leaveRetain State.doLeaveRetain

/-- R130: a RESET-PART is taken. In UP an ACK is formed, and the reset follows the first frame sent; otherwise the reset
is taken at once. -/
def State.doResetPart (s : State) (_body : List Byte) (_e : Echo) : State :=
  if s.link.state = .up then
    ({ s with mgmt := { s.mgmt with resetTaken := true } }).setLink { s.link with updateOwed := true }
  else s.resetPart

/-- RESET_PART (R130, R172). -/
def execResetPart (s : State) : Host.Outcome State Fault Refusal :=
  s.event fun s => s.takeRow .resetPart State.doResetPart

/-- R194: bit b of a LAPSE-CLEAR's bank set. -/
def bankSet (body : List Byte) : BitVec 16 := BitVec.ofNat 16 (fieldAt (valueOf body) 1 2)

/-- R109: a LAPSE-CLEAR. -/
def State.doLapseClear (s : State) (body : List Byte) (e : Echo) : State :=
  let recs := s.ren.records.mapIdx fun b r => if (bankSet body).getLsbD b.val then { r with lapse := false } else r
  ({ s with ren := { s.ren with records := recs } }).reply e .ok

/-- LAPSE_CLEAR (R109). -/
def execLapseClear (s : State) : Host.Outcome State Fault Refusal :=
  s.event fun s => s.takeRow .lapseClear State.doLapseClear

/-- R185: a CLEAR. -/
def State.doClear (s : State) (_body : List Byte) (e : Echo) : State :=
  ({ s with mgmt := { s.mgmt with counters := Table.fill 11 0 } }).reply e .ok

/-- CLEAR (R185). -/
def execClear (s : State) : Host.Outcome State Fault Refusal := s.event fun s => s.takeRow .clear State.doClear

/-- UNKNOWN_OPERATION (R154): every such request fails one of the six tests; none reaches `run`. -/
def execUnknownOperation (s : State) : Host.Outcome State Fault Refusal :=
  s.event fun s => s.takeRow .unknown fun t _ e => t.reply e .badValue

end Sys2Proof.Machine
end

