-- ==== Sys2Proof/Machine/PortCmds.lean ====
section
/-! DEFINITION. The array port's expiries and elapsed-time events, ACCESS_COMPLETION and TICK (chapters 1, 4, 5, 6). -/

namespace Sys2Proof.Machine

/-! ### start and wake (R18, R23) -/

/-- T_INIT_EXPIRY (R18, R97, R173). -/
def execTInitExpiry (s : State) : Host.Outcome State Fault Refusal :=
  s.event fun s =>
    match s.port.tInit with
    | some d =>
      if s.port.mode = .init then
        let s := s.reach d
        ({ s with port := { s.port with tInit := none } }).leaveIdleMode.settle
      else s
    | none => s

/-- T_EXIT_EXPIRY (R10, R23, R97, R180). -/
def execTExitExpiry (s : State) : Host.Outcome State Fault Refusal :=
  s.event fun s =>
    match s.port.tExit with
    | some d =>
      if s.port.mode = .waking then
        let s := s.reach d
        (({ s with port := { s.port with tExit := none } }).allBanks .closed).leaveIdleMode.settle
      else s
    | none => s

/-! ### bank timers (R5, R7, R8, R9) -/

/-- T_OA_EXPIRY (R5): OPENING becomes OPEN. -/
def execTOaExpiry (bank : BankNo) (s : State) : Host.Outcome State Fault Refusal :=
  s.event fun s =>
    let r := s.bank bank
    match r.tOa with
    | some d =>
      if r.state = .opening then ((s.reach d).setBank bank { r with state := .opened, tOa := none }).settle else s
    | none => s

/-- T_DWELL_EXPIRY (R5): dwell met becomes yes. -/
def execTDwellExpiry (bank : BankNo) (s : State) : Host.Outcome State Fault Refusal :=
  s.event fun s =>
    let r := s.bank bank
    match r.tDwell with
    | some d => ((s.reach d).setBank bank { r with dwellMet := true, tDwell := none }).settle
    | none => s

/-- T_WREC_EXPIRY (R7): recovery met becomes yes. -/
def execTWrecExpiry (bank : BankNo) (s : State) : Host.Outcome State Fault Refusal :=
  s.event fun s =>
    let r := s.bank bank
    match r.tWrec with
    | some d => ((s.reach d).setBank bank { r with recoveryMet := true, tWrec := none }).settle
    | none => s

/-- T_CLOSE_EXPIRY (R8): CLOSING becomes CLOSED; the HALTED test follows (R20). -/
def execTCloseExpiry (bank : BankNo) (s : State) : Host.Outcome State Fault Refusal :=
  s.event fun s =>
    let r := s.bank bank
    match r.tClose with
    | some d =>
      if r.state = .closing then ((s.reach d).setBank bank { r with state := .closed, tClose := none }).settle else s
    | none => s

/-- R103: a bank's debt at a renew completion. -/
def Renewal.renewed (r : Renewal) : Renewal := if r.exempt then r else { r with debt := r.debt - 1 }

/-- R103: the renewal unit at a renew completion. -/
def State.renewDone (s : State) (b : BankNo) : State :=
  { s with ren := { s.ren with records := s.ren.records.set b (s.ren.records.get b).renewed } }

/-- T_REN_EXPIRY (R9, R103): RENEWING becomes CLOSED and the debt falls. -/
def execTRenExpiry (bank : BankNo) (s : State) : Host.Outcome State Fault Refusal :=
  s.event fun s =>
    let r := s.bank bank
    match r.tRen with
    | some d =>
      if r.state = .renewing then
        (((s.reach d).setBank bank { r with state := .closed, tRen := none }).renewDone bank).settle
      else s
    | none => s

/-- IDLE_CLOSE_EXPIRY (R77): RUNNING becomes EXPIRED. -/
def execIdleCloseExpiry (bank : BankNo) (s : State) : Host.Outcome State Fault Refusal :=
  s.event fun s =>
    match s.sched.idle.get bank with
    | .running d =>
      let s := s.reach d
      ({ s with sched := { s.sched with idle := s.sched.idle.set bank .expired } }).settle
    | _ => s

/-! ### elapsed time (R11, R12, R14) -/

/-- T_OO_PASSED (R11). -/
def execTOoPassed (s : State) : Host.Outcome State Fault Refusal :=
  s.event fun s =>
    match s.port.history.getLast? with
    | some t => (s.reach (t + s.timing.tOo)).settle
    | none => s

/-- T_QUAD_PASSED (R12). -/
def execTQuadPassed (s : State) : Host.Outcome State Fault Refusal :=
  s.event fun s =>
    match s.port.history with
    | t :: _ => if s.port.history.length < 4 then s else (s.reach (t + s.timing.tQuad)).settle
    | [] => s

/-- T_TURN_PASSED (R14). -/
def execTTurnPassed (s : State) : Host.Outcome State Fault Refusal :=
  s.event fun s =>
    match s.port.lastAccess with
    | some t => (s.reach (t + s.timing.tTurn)).settle
    | none => s

/-! ### access completion (R7, R25 to R27, R70, R114, R119) -/

/-- R26: one chunk of a read, with its check result and its fault report. -/
def State.readChunk (s : State) (e : Entry) (ups : List Upset) (k : Nat) : (List Byte × CheckResult) × State :=
  let s := s.disturbChunk e k ups
  let (c, s) := s.orFree (s.guaranteed e.bank e.page (e.first + k))
  ((c.checked, c.result),
    match c.result with
    | .corrected => s.report (.correctedData e.bank e.page (e.first + k))
    | .uncorrectable => s.report (.uncorrectableData e.bank e.page (e.first + k) e.requester e.tag)
    | .clean | .poisoned => s)

/-- R26: the chunks of a read, in block order. -/
def State.readChunks (s : State) (e : Entry) (ups : List Upset) : List Nat → List (List Byte × CheckResult) × State
  | [] => ([], s)
  | k :: ks =>
    let x := s.readChunk e ups k
    let xs := x.2.readChunks e ups ks
    (x.1 :: xs.1, xs.2)

/-- A check result that makes a chunk bad (R116). -/
def CheckResult.bad : CheckResult → Bool
  | .uncorrectable | .poisoned => true
  | .clean | .corrected => false

/-- R116: the status of a DATA frame. -/
def dataStatus (results : List CheckResult) (lapse : Bool) : DataStatus :=
  if results.any CheckResult.bad then .poisoned else if lapse then .suspect else .ok

/-- R115: the position in the block of frame position `p`. -/
def SlotOwner.blockPos (o : SlotOwner) (p : Nat) : Nat :=
  match o.order with
  | .linear => p
  | .leadFirst => (o.lead + p) % o.size.chunks

/-- R116: the bad-chunk list: the frame positions of the bad chunks, ascending. -/
def badList (o : SlotOwner) (results : List CheckResult) : List Nat :=
  (List.range o.size.chunks).filter fun p => (results.getD (o.blockPos p) .clean).bad

/-- R114: the response unit takes a read's data and results into the entry's reserved slot. -/
def State.readDone (s : State) (e : Entry) (xs : List (List Byte × CheckResult)) : State :=
  match e.respSlot with
  | some i =>
    match s.resp.slots.get i with
    | .reserved o false =>
      let results := xs.map Prod.snd
      let lapse := (s.ren.records.get e.bank).lapse
      (s.setSlot i (.filled o (xs.flatMap Prod.fst) results lapse)).readyPlace o.requester o.tag
        (.data (dataStatus results lapse) i (badList o results))
    | .reserved _ true => s.setSlot i .free
    | .free | .filled .. => s
  | none => s

/-- R27: the merged chunk of write data, enables and the old chunk. -/
def mergeChunk (en : List Bool) (new : List Byte) (old : Chunk) : Chunk :=
  Chunk.fresh ((List.range 32).map fun j => if en.getD j false then new.getD j 0 else old.checked.getD j 0) old.result.bad

/-- R27: the faults of a merged chunk. -/
def State.mergeReport (s : State) (e : Entry) (k : Nat) (old : Chunk) : State :=
  match old.result with
  | .clean => s
  | .corrected => s.report (.correctedData e.bank e.page (e.first + k))
  | .uncorrectable | .poisoned => s.report (.mergePoison e.bank e.page (e.first + k))

/-- R25, R27: one chunk of a write or merge: fully enabled, partial, or left untouched. `olds` are the old chunks that the
merge has read at its start, each as the disturbances left it (log 7, 8). -/
def State.writeChunk (s : State) (e : Entry) (w : WriteSlot) (olds : List (Option Chunk)) (ups : List Upset) (k : Nat) :
    State :=
  let en := w.chunkEnables k
  let new := (w.data.drop (32 * k)).take 32
  if en.all id then s.storeChunk e.bank e.page (e.first + k) (Chunk.fresh new false)
  else if en.any id then
    let (old, s) := s.orFree ((olds.getD k none).map fun c => c.found ups k)
    (s.storeChunk e.bank e.page (e.first + k) (mergeChunk en new old)).mergeReport e k old
  else s

/-- R25, R27: the chunks of a write or merge, in block order. -/
def State.writeChunks (s : State) (e : Entry) (w : WriteSlot) (olds : List (Option Chunk)) (ups : List Upset) :
    List Nat → State
  | [] => s
  | k :: ks => (s.writeChunk e w olds ups k).writeChunks e w olds ups ks

/-- R27: the completion result: POISONED where a chunk of the block was stored with its poison mark set. -/
def State.writeResult (s : State) (e : Entry) (w : WriteSlot) : DoneStatus :=
  if (List.range e.size.chunks).any fun k =>
      w.partialChunk k && ((s.array.find (chunkKey e.bank e.page (e.first + k))).map Chunk.poison).getD false then .poisoned
  else .ok

/-- R119: the response unit takes the result of a write or merge. -/
def State.writeDone (s : State) (e : Entry) (st : DoneStatus) : State :=
  if e.tagHeld then s.readyPlace e.requester e.tag (.done st) else s

/-- R7: the array and the response unit at the completion of an entry's access; `olds` as for `writeChunk`. -/
def State.accessEffect (s : State) (e : Entry) (olds : List (Option Chunk)) (ups : List Upset) : State :=
  match e.kind with
  | .read =>
    let x := s.readChunks e ups (List.range e.size.chunks)
    x.2.readDone e x.1
  | _ =>
    match s.writeSlotOf e with
    | some w =>
      let t := s.writeChunks e w olds ups (List.range e.size.chunks)
      t.writeDone e (t.writeResult e w)
    | none => s

/-- R7: the bank record at an access completion. -/
def State.completeBank (s : State) (b : BankNo) (kind : AccessKind) : State :=
  let r := s.bank b
  let r := { r with state := .opened, access := none, tAccess := none, oldChunks := [] }
  let s := s.setBank b
    (match kind with
    | .read => r
    | .write | .merge => { r with recoveryMet := false, tWrec := some (s.now + s.timing.tWrec) })
  { s with port := { s.port with direction := kind.endDir, lastAccess := some s.now } }

/-- R70, R76: the scheduler at an access completion: the entry leaves, and the close-after mark follows its policy. -/
def State.completeEntry (s : State) (b : BankNo) (e : Entry) : State :=
  let s := (s.freeWriteSlot e).removeEntry e
  { s with sched := { s.sched with closeAfter := s.sched.closeAfter.set b (e.policy = .closeAfter) } }

/-- The ISSUED entry of a bank, whose access is in progress (R69, R13). -/
def State.issuedOn (s : State) (b : BankNo) : Option Entry :=
  s.sched.list.find? fun e => e.bank = b && e.state = .issued

/-- ACCESS_COMPLETION (R7, R25 to R27, R70, R114, R119). The disturbances are those the access finds (log 7). -/
def execAccessCompletion (bank : BankNo) (upsets : List Upset) (s : State) : Host.Outcome State Fault Refusal :=
  s.event fun s =>
    match (s.bank bank).tAccess, (s.bank bank).access with
    | some d, some kind =>
      if (s.bank bank).state = .accessing then
        let olds := (s.bank bank).oldChunks
        let s := (s.reach d).completeBank bank kind
        match s.issuedOn bank with
        | some e => ((s.accessEffect e olds upsets).completeEntry bank e).settle
        | none => s.settle
      else s
    | _, _ => s

/-! ### TICK (R98) -/

/-- R98: a renewal record at a tick. -/
def Renewal.ticked (r : Renewal) : Renewal :=
  if r.exempt then r else if 8 ≤ r.debt then { r with lapse := true } else { r with debt := r.debt + 1 }

/-- R98: a tick finds the bank's debt at +8. -/
def Renewal.overruns (r : Renewal) : Bool := !r.exempt && 8 ≤ r.debt

/-- R98: the overrun of one bank: its fault, and its contents no longer guaranteed (R108; log 11). -/
def State.overrun (s : State) (b : BankNo) : State :=
  ({ s with array := s.array.decay b }).report (.renewalOverrun b)

/-- R98: the overruns of a tick, in ascending bank number (R183). -/
def State.overruns (s : State) : State :=
  ((List.finRange 16).filter fun b => (s.ren.records.get b).overruns).foldl State.overrun s

/-- R98: the effect of a tick on the renewal records, with its overruns. -/
def State.tickRecords (s : State) : State :=
  let s := s.overruns
  { s with ren := { s.ren with records := s.ren.records.mapIdx fun _ r => r.ticked } }

/-- TICK (R97, R98). The next period starts at once. -/
def execTick (s : State) : Host.Outcome State Fault Refusal :=
  s.event fun s =>
    match s.ren.tick with
    | some t => ((s.reach t.at_).tickRecords.startTick).settle
    | none => s

end Sys2Proof.Machine
end

