-- ==== Sys2Proof/Machine/Transmit.lean ====
section
/-! DEFINITION. TRANSMIT_SELECT: the transmit arbiter (R148), the frames it sends, and the release of their sources (R62,
R90, R122, R143, R155, R189). -/

namespace Sys2Proof.Machine

/-! ### data order (R115) -/

/-- R115: the position in the block of each frame position. -/
def frameOrder (o : ReturnOrder) (lead : Nat) (sz : BlockSize) : List Nat :=
  match o with
  | .linear => List.range sz.chunks
  | .leadFirst => (List.range sz.chunks).map fun i => (lead + i) % sz.chunks

/-- Chunk `k` of a block's data in block order. -/
def chunkBytes (data : List Byte) (k : Nat) : List Byte := (data.drop (32 * k)).take 32

/-- R115: the data in frame order. -/
def payload (o : SlotOwner) (data : List Byte) : List Byte :=
  (frameOrder o.order o.lead o.size).flatMap (chunkBytes data)

/-! ### sending -/

/-- R141, R191: a frame is sent with the current ack and credit; update owed becomes no. -/
def State.send (s : State) (kind seq : Byte) (body : List Byte) : State :=
  { s with
    txLane := some
      (Frame.bytes { kind := kind, seq := seq, ack := s.link.ack, credit := s.link.credit, body := body })
    link := { s.link with updateOwed := false } }

def TrainMode.code : TrainMode → Byte
  | .new => 0 | .resume => 1

/-- R134: the body of a TRAIN answer. -/
def TrainAnswer.body (a : TrainAnswer) : List Byte := [1, a.session, a.mode.code, a.expect]

/-- R134: the body of a TRAIN offer, formed as it is sent (log 16). -/
def Link.offerBody (l : Link) : List Byte :=
  if l.live then [0, l.session, TrainMode.resume.code, l.expect] else [0, 0, TrainMode.new.code, 0]

/-- R148 rank 1: a link control frame is sent. -/
def State.sendControl (s : State) : Option State :=
  let l := s.link
  if l.state = .down then none
  else match l.answers with
    | a :: as => some ((s.setLink { l with answers := as }).send kindTrain 0 a.body)
    | [] =>
      if 0 < l.offers then some ((s.setLink { l with offers := l.offers - 1 }).send kindTrain 0 l.offerBody)
      else if l.state = .up then
        match l.replays with
        | n :: ns => some ((s.setLink { l with replays := ns }).send kindReplay 0 [n])
        | [] => if l.updateOwed then some (s.send kindAck 0 []) else none
      else none

/-- R148 rank 2: the frame at the resend point is sent again, with its own sequence number. -/
def State.sendResend (s : State) : Option State :=
  let l := s.link
  match l.resend with
  | some n =>
    let i := (n - l.oldest).toNat
    match l.ring[i]? with
    | some f =>
      if l.state = .up then
        some ((s.setLink { l with resend := if i + 1 < l.ring.length then some (n + 1) else none }).send f.kind n f.body)
      else none
    | none => none
  | none => none

/-- R144: a new sequenced frame may be taken. -/
def Link.allowsNew (l : Link) : Bool := l.state = .up && l.ring.length < min 32 l.sendLimit.toNat

/-- R143: a new sequenced frame is taken, numbered N, placed in the replay ring and sent. -/
def State.takeNew (s : State) (f : OutFrame) : State :=
  let l := s.link
  (s.setLink
    { l with
      ring := l.ring ++ [f]
      nextSeq := l.nextSeq + 1
      ackTimer := if l.ring = [] then some (s.now + s.ackTimeout) else l.ackTimer }).send f.kind l.nextSeq f.body

/-! ### sources of ranks 3 to 5 -/

/-- R155: the busy hold's frame is the oldest formed. -/
def Mgmt.busyFirst (m : Mgmt) : Option OutFrame :=
  match m.busyHold with
  | some b => if b.ahead = 0 then some b.frame else none
  | none => none

/-- R155: the oldest formed MANAGE-REPLY is taken. -/
def State.takeManageReply (s : State) : Option State :=
  match s.mgmt.busyFirst, s.mgmt.replies with
  | some f, _ => some (({ s with mgmt := { s.mgmt with busyHold := none } }).takeNew f)
  | none, f :: fs =>
    let busy := s.mgmt.busyHold.map fun b => { b with ahead := b.ahead - 1 }
    some (({ s with mgmt := { s.mgmt with replies := fs, busyHold := busy } }).takeNew f)
  | none, [] => none

/-- R189: the oldest notice record is formed into a NOTICE frame to the destination of this moment. -/
def State.takeNotice (s : State) : Option State :=
  match s.mgmt.notices with
  | n :: ns =>
    if s.link.live then
      some (({ s with mgmt := { s.mgmt with notices := ns } }).takeNew (.notice s.mgmt.notice.destination n))
    else none
  | [] => none

/-- R62: the admission unit's reply hold is taken. -/
def State.takeReplyHold (s : State) : Option State :=
  s.adm.replyHold.map fun f =>
    (({ s with adm := { s.adm with replyHold := none } }).setLink { s.link with replyTurn := .cancelReply }).takeNew f

/-- R90: the cancel reply hold is taken. -/
def State.takeCancelHold (s : State) : Option State :=
  s.sched.cancelHold.map fun f =>
    (({ s with sched := { s.sched with cancelHold := none } }).setLink { s.link with replyTurn := .refuse }).takeNew f

/-- R148 rank 4: the hold the reply turn names, or the other where only it presents a frame. -/
def State.takeHold (s : State) : Option State :=
  match s.link.replyTurn with
  | .refuse => s.takeReplyHold.or s.takeCancelHold
  | .cancelReply => s.takeCancelHold.or s.takeReplyHold

/-- R116, R119, R120: the frame of a READY place. -/
def State.finalFrame (s : State) (r : ReqNo) (p : Place) : Option OutFrame :=
  match p.state with
  | .owed => none
  | .done st => some (.done r p.tag st)
  | .void => some (.void r p.tag)
  | .data st i bad =>
    match s.resp.slots.get i with
    | .filled o d _ _ => some (.data o.requester o.tag st o.size o.order o.lead bad (payload o d))
    | _ => none

/-- R121: the candidate a requester presents, with its frame. -/
def State.presents (s : State) (r : ReqNo) : Option (Place × OutFrame) :=
  match s.candidate r with
  | some p => (s.finalFrame r p).map fun f => (p, f)
  | none => none

/-- R122: the place leaves, its tag is released, and a DATA frame's slot becomes free. -/
def State.releasePlace (s : State) (r : ReqNo) (p : Place) : State :=
  let s := s.setOrder r ((s.resp.orders.get r).eraseP fun q => q.tag = p.tag)
  let s := { s with adm := { s.adm with tags := s.adm.tags.set r ((s.adm.tags.get r).erase p.tag) } }
  match p.state with
  | .data _ i _ => s.setSlot i .free
  | _ => s

/-- R148 rank 5: the requesters in search order, from the round-robin pointer upward. -/
def searchOrder (rr : ReqNo) : List ReqNo := (List.finRange 16).map fun i => rr + i

/-- R148 rank 5: the first requester with a candidate. -/
def State.finalChoice (s : State) : Option (ReqNo × Place × OutFrame) :=
  (searchOrder s.link.rr).findSome? fun r => (s.presents r).map fun pf => (r, pf.1, pf.2)

/-- R122, R148 rank 5: a final response is taken; the freed slot and place can make reads ready (R85). -/
def State.takeFinal (s : State) : Option State :=
  s.finalChoice.map fun c =>
    let s := s.releasePlace c.1 c.2.1
    ((s.setLink { s.link with rr := c.1 + 1 }).takeNew c.2.2).settle

/-- R148: the new sequenced frame the arbiter selects, in rank order. -/
def State.sendNew (s : State) : Option State :=
  if s.link.allowsNew then
    s.takeManageReply.or (s.takeNotice.or (s.takeHold.or s.takeFinal))
  else none

/-- R148: one selection of the transmit arbiter; none where no source has a frame that is allowed. -/
def State.select (s : State) : Option State := s.sendControl.or (s.sendResend.or s.sendNew)

/-- TRANSMIT_SELECT (R148). The reset of a taken RESET-PART comes at the end of the first frame sent after the take
(R130). -/
def execTransmitSelect (s : State) : Host.Outcome State Fault Refusal :=
  s.event fun s =>
    match s.select with
    | some t => t.resetIfTaken
    | none => s

end Sys2Proof.Machine
end

