-- ==== Sys2Proof/Machine/Dispatch.lean ====
section
/-! DEFINITION. One arm per command: the call of its meaning. -/

namespace Sys2Proof.Machine

def exec (i : Instr) (s : State) : Host.Outcome State Fault Refusal :=
  match i with
  | .resetNAssert => Sys2Proof.Machine.execResetNAssert s
  | .resetNRelease => Sys2Proof.Machine.execResetNRelease s
  | .laneSignalPresent => Sys2Proof.Machine.execLaneSignalPresent s
  | .signalLoss => Sys2Proof.Machine.execSignalLoss s
  | .badCheckFrame bytes => Sys2Proof.Machine.execBadCheckFrame bytes s
  | .inboundSequencedFrame bytes => Sys2Proof.Machine.execInboundSequencedFrame bytes s
  | .hostAck bytes => Sys2Proof.Machine.execHostAck bytes s
  | .hostReplay bytes => Sys2Proof.Machine.execHostReplay bytes s
  | .hostTrain bytes => Sys2Proof.Machine.execHostTrain bytes s
  | .ackTimerExpiry => Sys2Proof.Machine.execAckTimerExpiry s
  | .replayMarkTimerExpiry => Sys2Proof.Machine.execReplayMarkTimerExpiry s
  | .holdTimerExpiry => Sys2Proof.Machine.execHoldTimerExpiry s
  | .offerTimerExpiry => Sys2Proof.Machine.execOfferTimerExpiry s
  | .trainingTimeout => Sys2Proof.Machine.execTrainingTimeout s
  | .recoveryTimeout => Sys2Proof.Machine.execRecoveryTimeout s
  | .transmitSelect => Sys2Proof.Machine.execTransmitSelect s
  | .read => Sys2Proof.Machine.execRead s
  | .write => Sys2Proof.Machine.execWrite s
  | .maskedWrite => Sys2Proof.Machine.execMaskedWrite s
  | .cancel => Sys2Proof.Machine.execCancel s
  | .manageFrame => Sys2Proof.Machine.execManageFrame s
  | .get => Sys2Proof.Machine.execGet s
  | .set => Sys2Proof.Machine.execSet s
  | .setNoticeSettings => Sys2Proof.Machine.execSetNoticeSettings s
  | .commit => Sys2Proof.Machine.execCommit s
  | .discard => Sys2Proof.Machine.execDiscard s
  | .enterRetain => Sys2Proof.Machine.execEnterRetain s
  | .leaveRetain => Sys2Proof.Machine.execLeaveRetain s
  | .resetPart => Sys2Proof.Machine.execResetPart s
  | .lapseClear => Sys2Proof.Machine.execLapseClear s
  | .clear => Sys2Proof.Machine.execClear s
  | .tInitExpiry => Sys2Proof.Machine.execTInitExpiry s
  | .tExitExpiry => Sys2Proof.Machine.execTExitExpiry s
  | .tOaExpiry bank => Sys2Proof.Machine.execTOaExpiry bank s
  | .tDwellExpiry bank => Sys2Proof.Machine.execTDwellExpiry bank s
  | .accessCompletion bank upsets => Sys2Proof.Machine.execAccessCompletion bank upsets s
  | .tWrecExpiry bank => Sys2Proof.Machine.execTWrecExpiry bank s
  | .tCloseExpiry bank => Sys2Proof.Machine.execTCloseExpiry bank s
  | .tRenExpiry bank => Sys2Proof.Machine.execTRenExpiry bank s
  | .idleCloseExpiry bank => Sys2Proof.Machine.execIdleCloseExpiry bank s
  | .tOoPassed => Sys2Proof.Machine.execTOoPassed s
  | .tQuadPassed => Sys2Proof.Machine.execTQuadPassed s
  | .tTurnPassed => Sys2Proof.Machine.execTTurnPassed s
  | .tick => Sys2Proof.Machine.execTick s
  | .unknownOperation => Sys2Proof.Machine.execUnknownOperation s

end Sys2Proof.Machine
end

