-- ==== Sys2Proof/Safety.lean ====
section
/-! DEFINITION. What a well-kept state of the part is: the bounds and correspondences that the manual says hold "at every
moment", block by block. Each is meant to hold at reset and to be kept by every step. -/

namespace Sys2Proof.Machine

/-! ### link controller (chapter 7) -/

/-- R141, R142, R143: the receive buffer's 8 slots, the replay ring's 32 frames, the resend point in the ring. -/
abbrev Link.Bounded (l : Link) : Prop :=
  l.rx.length ≤ 8 ∧ l.ring.length ≤ 32 ∧
    (∀ n, l.resend = some n → (n - l.oldest).toNat < l.ring.length)

/-- R140: the replay mark is absent or E, and its timer runs exactly while it is set. -/
abbrev Link.MarkOk (l : Link) : Prop :=
  (l.replayMark = none ∨ l.replayMark = some l.expect) ∧ (l.markTimer.isSome ↔ l.replayMark.isSome)

/-- R133, R145, R149: what holds in UP, where the session is live and the ack timer runs exactly while the ring holds a
frame, and what holds out of UP. -/
abbrev Link.TimersOk (l : Link) : Prop :=
  (l.state = .up → l.live = true ∧ l.expiries ≤ 3 ∧ l.holdTimer = none ∧ (l.ackTimer.isSome ↔ l.ring ≠ [])) ∧
    (l.state ≠ .up → l.ackTimer = none ∧ l.markTimer = none ∧ l.resend = none ∧ l.expiries ≤ 4)

/-- R132, R133: the offer timer and the state timer run exactly in TRAINING and RECOVERY. -/
abbrev Link.OffersOk (l : Link) : Prop :=
  (l.offerTimer.isSome ↔ l.state = .training ∨ l.state = .recovery) ∧
    (l.stateTimer.isSome ↔ l.state = .training ∨ l.state = .recovery)

/-- The link controller is well kept. R136: a live session has a number from 1 to 255. -/
abbrev Link.Ok (l : Link) : Prop :=
  l.Bounded ∧ l.MarkOk ∧ l.TimersOk ∧ l.OffersOk ∧ (l.live = true → l.session ≠ 0)

/-- The link controller is well kept, and stands at its reset values while RESET_N is asserted (R172). -/
abbrev State.LinkOk (s : State) : Prop := s.link.Ok ∧ (s.rst.isSome → s.link = Link.reset)

/-! ### array port (chapter 1) -/

/-- The states in which a bank has an open page (R3). -/
def BankState.hasPage : BankState → Bool
  | .opening | .opened | .accessing => true
  | .closed | .closing | .renewing | .held => false

/-- R3, R5, R7, R8, R9, R27: the fields of one bank record and its timers agree with its state, and old chunks stand in it
only for a merge in progress. -/
abbrev Bank.Ok (r : Bank) : Prop :=
  r.openPage.isSome = r.state.hasPage ∧ (r.access.isSome ↔ r.state = .accessing) ∧
    (r.tOa.isSome ↔ r.state = .opening) ∧ (r.tAccess.isSome ↔ r.state = .accessing) ∧
    (r.tClose.isSome ↔ r.state = .closing) ∧ (r.tRen.isSome ↔ r.state = .renewing) ∧
    r.tDwell.isNone = r.dwellMet ∧ r.tWrec.isNone = r.recoveryMet ∧
    (r.state.hasPage = false → r.dwellMet = true ∧ r.recoveryMet = true) ∧
    (r.access ≠ some .merge → r.oldChunks = [])

/-- R10, R18, R21, R23: the bank states each array port mode allows. -/
def PortMode.allows : PortMode → BankState → Bool
  | .init, st => st = .closed
  | .halted, st => st = .closed || st = .renewing
  | .held, st | .waking, st => st = .held
  | .run, st | .halting, st => st ≠ .held

/-- R12 to R15, R19 to R21: the array port is well kept. -/
abbrev Port.Ok (p : Port) : Prop :=
  (∀ b, (p.banks.get b).Ok ∧ p.mode.allows (p.banks.get b).state = true) ∧
    (p.banks.count fun b => b.state = .accessing) ≤ 1 ∧ (p.banks.count fun b => b.state = .renewing) ≤ 2 ∧
    p.history.length ≤ 4 ∧ (p.direction = .noDir ↔ p.lastAccess = none) ∧
    (p.mode = .run → p.commitHalt = false ∧ p.drainHalt = false) ∧
    (p.mode = .halting ∨ p.mode = .halted → p.commitHalt = true ∨ p.drainHalt = true) ∧
    (p.tExit.isSome ↔ p.mode = .waking)

/-- R18, R24, R97, R172: the array port, the tick timer and the reset pin agree. While RESET_N is asserted the port
stands at its reset values. -/
abbrev State.PortOk (s : State) : Prop :=
  s.port.Ok ∧ (s.ren.tick.isSome ↔ s.port.mode = .run ∨ s.port.mode = .halting ∨ s.port.mode = .halted) ∧
    (∀ k, s.rst = some k → s.port = Port.reset k) ∧ (s.rst = none → (s.port.tInit.isSome ↔ s.port.mode = .init))

/-! ### renewal unit (chapter 5) -/

/-- R96, R103: every debt lies in −4 to +8, an exempt bank's is 0, and a renew in progress finds at least −3. -/
abbrev State.DebtsOk (s : State) : Prop :=
  ∀ b, -4 ≤ (s.ren.records.get b).debt ∧ (s.ren.records.get b).debt ≤ 8 ∧
    ((s.ren.records.get b).exempt = true → (s.ren.records.get b).debt = 0) ∧
    ((s.bank b).state = .renewing → (s.ren.records.get b).exempt = true ∨ -3 ≤ (s.ren.records.get b).debt)

/-! ### pending list (chapter 4) -/

/-- R60, R71, R72: every entry's blocked-by names the youngest older entry that conflicts with it, and an ISSUED entry has
none. -/
def linkedFrom : List Entry → List Entry → Bool
  | _, [] => true
  | older, e :: es =>
    e.blockedBy = youngestConflict older e && (e.state = .waiting || e.blockedBy.isNone) && linkedFrom (older ++ [e]) es

/-- R60, R68, R71: the pending list is well kept. The `id`s that tell entries apart rise with age (log 24). -/
abbrev Sched.Ok (q : Sched) : Prop :=
  q.list.length ≤ 64 ∧ q.list.Pairwise (fun a b => a.id < b.id) ∧ (∀ e ∈ q.list, e.id < q.nextId) ∧
    linkedFrom [] q.list = true

/-- What an entry carries from its admission on (R58, R69): the fields that the issue gate and a commit point change left
out. -/
def Entry.snapshot (e : Entry) : Entry := { e with state := .waiting, respSlot := none, bypass := 0, overdue := false }

/-! ### tag registry, order lists and response slots (chapters 3 and 6) -/

/-- R53, R117: a requester's places correspond one to one with its held tags, at most 64 of them; every quota is at most
64 (R42). -/
abbrev State.RegistryOk (s : State) : Prop :=
  (∀ r, s.adm.tags.get r = (s.resp.orders.get r).map Place.tag ∧ (s.adm.tags.get r).Nodup ∧
    (s.adm.tags.get r).length ≤ 64) ∧
  (∀ r, (s.mgmt.active.requesters.get r).quota ≤ 64 ∧ (s.mgmt.staged.requesters.get r).quota ≤ 64)

/-- R113: what a slot records of an entry. -/
def Entry.slotOwner (e : Entry) : SlotOwner where
  requester := e.requester
  tag := e.tag
  size := e.size
  order := e.returnOrder
  lead := e.lead.getD 0

/-- R86, R112, R125: an entry and the response slot it holds: exactly an ISSUED read holds one, RESERVED for it, with
discard exactly where its session is lost. -/
abbrev State.EntrySlotOk (s : State) (e : Entry) : Prop :=
  (e.respSlot.isSome ↔ e.kind = .read ∧ e.state = .issued) ∧ (e.kind = .read → e.state = .waiting → e.tagHeld = true) ∧
    (∀ i, e.respSlot = some i → s.resp.slots.get i = .reserved e.slotOwner (!e.tagHeld))

/-- A place READY with DATA names the slot filled for its requester and tag (R112, R117). -/
def State.placeSlotOk (s : State) (r : ReqNo) (p : Place) : Bool :=
  match p.state with
  | .data _ i _ =>
    match s.resp.slots.get i with
    | .filled o _ _ _ => o.requester = r && o.tag = p.tag
    | .free | .reserved .. => false
  | .owed | .done _ | .void => true

/-- A slot is RESERVED only for an entry that names it (R112). -/
def State.slotOwned (s : State) (i : Fin 32) : Bool :=
  match s.resp.slots.get i with
  | .reserved .. => s.sched.list.any fun e => e.respSlot = some i
  | .free | .filled .. => true

/-- R86, R112, R117: the response buffer is well kept. -/
abbrev State.ResponseOk (s : State) : Prop :=
  s.RegistryOk ∧ s.sched.list.Pairwise (fun a b => a.id < b.id) ∧ (∀ e ∈ s.sched.list, e.id < s.sched.nextId) ∧
    (∀ e ∈ s.sched.list, s.EntrySlotOk e) ∧
    s.sched.list.Pairwise (fun a b => a.respSlot = none ∨ a.respSlot ≠ b.respSlot) ∧
    (∀ r, ∀ p ∈ s.resp.orders.get r, s.placeSlotOk r p = true) ∧ (∀ i, s.slotOwned i = true)

/-! ### write data buffer and array (chapters 1 and 3) -/

/-- R57: an entry and the write slot it holds: exactly a write holds one, whose owner it is, with the block's data. -/
def State.entryWriteOk (s : State) (e : Entry) : Bool :=
  match e.writeSlot with
  | some i =>
    e.kind ≠ .read &&
      match s.adm.slots.get i with
      | some w => w.owner = e.id && w.data.length = e.size.chunks * 32
      | none => false
  | none => e.kind = .read

/-- R57: an occupied write slot belongs to the entry that owns it. -/
def State.writeSlotOwned (s : State) (i : Fin 32) : Bool :=
  match s.adm.slots.get i with
  | some w => s.sched.list.any fun e => e.id = w.owner && e.writeSlot = some i
  | none => true

/-- R57: the write data buffer is well kept. -/
abbrev State.BufferOk (s : State) : Prop :=
  s.sched.list.Pairwise (fun a b => a.id < b.id) ∧ (∀ e ∈ s.sched.list, e.id < s.sched.nextId) ∧
    (∀ e ∈ s.sched.list, s.entryWriteOk e = true) ∧ (∀ i, s.writeSlotOwned i = true)

/-- R1: an entry's block lies in one page of the array. -/
abbrev Entry.InArray (e : Entry) : Prop := e.page < 32768 ∧ e.first + e.size.chunks ≤ 64

/-- R41 test 2: the valid windows of a table end at or below 1024 MiB. -/
abbrev windowsFit (t : Table 32 Window) : Prop := ∀ i, (t.get i).valid = true → (t.get i).physicalBase + 2 ^ (t.get i).sizeExp ≤ 1024

/-- R1, R35, R41: the stored chunks keep their canonical form, and every access stays inside the array. -/
abbrev State.ArrayOk (s : State) : Prop :=
  s.array.wf = true ∧ s.BufferOk ∧ (∀ e ∈ s.sched.list, e.InArray) ∧ windowsFit s.mgmt.active.windows ∧
    (s.mgmt.commit.state ≠ .none → windowsFit s.mgmt.staged.windows)

/-! ### management unit (chapters 8 to 10) -/

/-- How many replies are owed and not yet formed (R155). -/
def Mgmt.owed (m : Mgmt) : Nat :=
  (match m.commit.replyOwed with | some (.owed _) => 1 | _ => 0) + (match m.part.retainOwed with | some _ => 1 | none => 0)

/-- R153, R155, R184, R187, R188: the management queue, the reply list, the notice queue and the counters keep their
bounds; the commit record and the part state machine hold what their states let them hold (section 8.3, chapter 9). -/
abbrev Mgmt.Ok (m : Mgmt) : Prop :=
  m.queue.length ≤ 4 ∧ m.replies.length + m.owed ≤ 3 ∧ m.notices.length ≤ 16 ∧ m.dropped ≤ 255 ∧
    (∀ i, m.counters.get i ≤ 65535) ∧ (m.commit.state = .none → m.commit.replyOwed = none ∧ m.commit.mapChange = false) ∧
    (m.part.stage.isSome ↔ m.part.state = .draining) ∧ (m.part.retainOwed.isSome → m.part.state = .draining) ∧
    m.status.epoch < 65536 ∧ m.status.stagedDiffers = decide (m.staged ≠ m.active)

/-! ### words of the statements -/

/-- The fields that a MANAGE-REPLY echoes, of a body that carries them (R155). -/
def echoFields (body : List Byte) : Echo where
  requester := body.getD 0 0
  mtag := body.getD 1 0
  op := body.getD 2 0
  object := body.getD 3 0
  index := body.getD 4 0

/-- An echo holds, as received, every one of the five echoed bytes that the body carries (R155, R193). Where a short body
carries none the echo's byte is free (log 14). -/
abbrev Echo.HoldsOf (e : Echo) (body : List Byte) : Prop :=
  (∀ x, body[0]? = some x → e.requester = x) ∧ (∀ x, body[1]? = some x → e.mtag = x) ∧ (∀ x, body[2]? = some x → e.op = x) ∧
    (∀ x, body[3]? = some x → e.object = x) ∧ (∀ x, body[4]? = some x → e.index = x)

/-- The request `body` stands at the old end of the management queue and may be taken, as a command of the row `row`
(R153). -/
structure State.Takes (s : State) (row : Row) (body : List Byte) (rest : List (List Byte)) : Prop where
  running : s.rst = none
  queue : s.mgmt.queue = body :: rest
  replies : s.mgmt.replies = []
  resetTaken : s.mgmt.resetTaken = false
  row_eq : rowOf body = row
  echoes : 5 ≤ body.length

/-- The state with the request at the old end of the queue taken out. -/
def State.taken (s : State) (rest : List (List Byte)) : State := { s with mgmt := { s.mgmt with queue := rest } }

/-- The command of a row of requests. -/
def Row.command : Row → Instr
  | .get => .get
  | .set => .set
  | .setNotice => .setNoticeSettings
  | .commit => .commit
  | .discard => .discard
  | .enterRetain => .enterRetain
  | .leaveRetain => .leaveRetain
  | .resetPart => .resetPart
  | .lapseClear => .lapseClear
  | .clear => .clear
  | .unknown => .unknownOperation

/-- The oldest frame bound to the admission unit is a request of kind `k` with this body, and the unit may take it (R50,
R147). -/
structure State.Arrives (s : State) (k : ReqKind) (body : List Byte) : Prop where
  running : s.rst = none
  hold : s.adm.replyHold = none
  frame : ∃ f, s.link.rx.find? RxFrame.isData = some f ∧ dataKind f.kind = some k ∧ f.body = body

/-- The command that takes a data request of a kind. -/
def ReqKind.command : ReqKind → Instr
  | .read => .read
  | .write => .write
  | .masked => .maskedWrite

/-- R52: check 1 passes. -/
abbrev State.AdmissionOpen (s : State) : Prop :=
  s.mgmt.part.state = .serving ∧ ¬(s.mgmt.commit.state ≠ .none ∧ s.mgmt.commit.mapChange = true)

/-- R34: the lowest-numbered valid active window that contains a request's block is `w`. -/
abbrev State.WindowOf (s : State) (k : ReqKind) (q : DataReq) (w : Window) : Prop :=
  ∃ i, s.mgmt.active.windows.get i = w ∧ w.contains (blockStart k q) q.size.bytes = true ∧
    ∀ j < i, (s.mgmt.active.windows.get j).contains (blockStart k q) q.size.bytes = false

/-- R50: checks 1 to 3 pass, for the request `q` that the body spells. -/
structure State.PassesForm (s : State) (k : ReqKind) (body : List Byte) (q : DataReq) : Prop where
  part : s.AdmissionOpen
  form : parseReq k body = some q
  enabled : (s.mgmt.active.requesters.get q.requester).enabled = true

/-- R50: checks 1 to 5 pass. -/
structure State.PassesAccess (s : State) (k : ReqKind) (body : List Byte) (q : DataReq) (w : Window) : Prop
    extends s.PassesForm k body q where
  window : s.WindowOf k q w
  access : (match k with | .read => w.readSet | _ => w.writeSet).getLsbD q.requester.val = true

/-- R46, R55: a write of a requester whose acknowledgement point is ADMIT. -/
abbrev State.Detaches (s : State) (k : ReqKind) (q : DataReq) : Prop :=
  k ≠ .read ∧ (s.mgmt.active.requesters.get q.requester).ackPoint = .admission

/-- R50: checks 1 to 7 pass. -/
structure State.PassesQuota (s : State) (k : ReqKind) (body : List Byte) (q : DataReq) (w : Window) : Prop
    extends s.PassesAccess k body q w where
  tag : q.tag ∉ s.adm.tags.get q.requester
  quota : s.Detaches k q ∨
    (s.adm.tags.get q.requester).length < (s.mgmt.active.requesters.get q.requester).quota

/-- R50: all nine checks pass. -/
structure State.Admits (s : State) (k : ReqKind) (body : List Byte) (q : DataReq) (w : Window) : Prop
    extends s.PassesQuota k body q w where
  space : s.sched.list.length < 64
  slot : k = .read ∨ ∃ i, s.adm.slots.get i = none

/-- R50: a reason is that of the first check that fails. -/
def State.Refuses (s : State) (k : ReqKind) (body : List Byte) : RefuseReason → Prop
  | .notReady => s.mgmt.part.state = .starting ∨ s.mgmt.part.state = .resuming ∨
      s.mgmt.part.state = .serving ∧ s.mgmt.commit.state ≠ .none ∧ s.mgmt.commit.mapChange = true
  | .retained => s.mgmt.part.state = .draining ∨ s.mgmt.part.state = .retained
  | .malformed => s.AdmissionOpen ∧ parseReq k body = none
  | .requesterOff => s.AdmissionOpen ∧
      ∃ q, parseReq k body = some q ∧ (s.mgmt.active.requesters.get q.requester).enabled = false
  | .noWindow => ∃ q, s.PassesForm k body q ∧
      ∀ i, (s.mgmt.active.windows.get i).contains (blockStart k q) q.size.bytes = false
  | .denied => ∃ q w, s.PassesForm k body q ∧ s.WindowOf k q w ∧
      (match k with | .read => w.readSet | _ => w.writeSet).getLsbD q.requester.val = false
  | .tagInUse => ∃ q w, s.PassesAccess k body q w ∧ q.tag ∈ s.adm.tags.get q.requester
  | .quota => ∃ q w, s.PassesAccess k body q w ∧ q.tag ∉ s.adm.tags.get q.requester ∧ ¬s.Detaches k q ∧
      (s.mgmt.active.requesters.get q.requester).quota ≤ (s.adm.tags.get q.requester).length
  | .full => ∃ q w, s.PassesQuota k body q w ∧ 64 ≤ s.sched.list.length
  | .noWriteSlot => ∃ q w, s.PassesQuota k body q w ∧ s.sched.list.length < 64 ∧ k ≠ .read ∧
      ∀ i, s.adm.slots.get i ≠ none

/-- What every block holds at the end of a reset of the kind given, taken with the array `kept` and ended at instant `at_`
(R24, R65, R94, R110, R128, R130, R153, R158, R168, R172, R184, R186, R190). -/
structure State.Started (t : State) (kind : StartKind) (kept : Store) (at_ : Nat) : Prop where
  tags : ∀ r, t.adm.tags.get r = []
  writeSlots : ∀ i, t.adm.slots.get i = none
  replyHold : t.adm.replyHold = none
  list : t.sched.list = []
  idleTimers : ∀ b, t.sched.idle.get b = .stopped
  closeMarks : ∀ b, t.sched.closeAfter.get b = false
  cancelHold : t.sched.cancelHold = none
  respSlots : ∀ i, t.resp.slots.get i = .free
  orders : ∀ r, t.resp.orders.get r = []
  renewal : ∀ b, t.ren.records.get b = { debt := 0, exempt := false, lapse := false }
  tickTimer : t.ren.tick = none
  mode : t.port.mode = match kind with | .cold => .init | .warm => .waking
  initTimer : t.port.tInit = match kind with | .cold => some (at_ + 200000) | .warm => none
  exitTimer : t.port.tExit = match kind with | .cold => none | .warm => some (at_ + 250)
  banks : ∀ b, t.bank b = Bank.idle (match kind with | .cold => .closed | .warm => .held)
  history : t.port.history = []
  direction : t.port.direction = .noDir ∧ t.port.lastAccess = none
  halts : t.port.commitHalt = false ∧ t.port.drainHalt = false ∧ t.port.holdReq = false
  array : t.array = kept
  objects : t.mgmt.active = Objects.reset ∧ t.mgmt.staged = Objects.reset
  queues : t.mgmt.queue = [] ∧ t.mgmt.replies = [] ∧ t.mgmt.busyHold = none ∧ t.mgmt.resetTaken = false
  commit : t.mgmt.commit = { state := .none, mapChange := false, replyOwed := none }
  status : t.mgmt.status = { lastResult := .none, check := .none, checkIndex := 0, stagedDiffers := false, epoch := 0 }
  part : t.mgmt.part = { state := .starting, stage := none, retainOwed := none, lastStart := kind }
  notice : t.mgmt.notice = { destination := 0, enables := 0xFB }
  counters : ∀ i, t.mgmt.counters.get i = if i = 7 then 1 else 0
  notices : t.mgmt.notices = [{ number := 0, report := .started kind, dropped := 0 }]
  noticeNumbers : t.mgmt.nextNotice = 1 ∧ t.mgmt.dropped = 0
  session : t.link.session = 0 ∧ t.link.live = false ∧ t.link.expect = 0 ∧ t.link.nextSeq = 0
  rings : t.link.rx = [] ∧ t.link.ring = [] ∧ t.link.resend = none ∧ t.link.sendLimit = 0
  linkMarks : t.link.expiries = 0 ∧ t.link.replayMark = none ∧ t.link.updateOwed = false
  linkTimers : t.link.ackTimer = none ∧ t.link.markTimer = none ∧ t.link.holdTimer = none
  arbiter : t.link.rr = 0 ∧ t.link.replyTurn = .refuse
  unsent : t.link.answers = [] ∧ t.link.replays = []

/-- The state a reset leaves while RESET_N stays asserted, with the start kind decided at the assertion (R24, R172). The
part state machine changes at the end of the reset (log 4). -/
structure State.InReset (s : State) (kind : StartKind) : Prop where
  rst : s.rst = some kind
  link : s.link = Link.reset
  adm : s.adm = Admission.reset
  sched : s.sched = Sched.reset
  port : s.port = Port.reset kind
  ren : s.ren = RenewalUnit.reset
  resp : s.resp = Response.reset
  mgmt : s.mgmt = Mgmt.reset s.mgmt.part

/-- `chunks` may be what an access finds in the block of `e`: as stored and disturbed where the contents are guaranteed,
and anything elsewhere (R24, R39; log 6, 7, 10). -/
abbrev State.Finds (s : State) (e : Entry) (ups : List Upset) (chunks : List Chunk) : Prop :=
  chunks.length = e.size.chunks ∧
    ∀ k < e.size.chunks, ∀ c, s.array.find (chunkKey e.bank e.page (e.first + k)) = some c → s.exemptBank e.bank = false →
      chunks[k]? = some (c.found ups k)

/-- `olds` may be the old chunks of the block of `e`, whose access on bank `b` is in progress: as read at its start and
disturbed where the contents were guaranteed then, and anything elsewhere (R27; log 6 to 8). -/
abbrev State.FoundAtStart (s : State) (b : BankNo) (e : Entry) (ups : List Upset) (olds : List Chunk) : Prop :=
  olds.length = e.size.chunks ∧
    ∀ k < e.size.chunks, ∀ c, (s.bank b).oldChunks[k]? = some (some c) → olds[k]? = some (c.found ups k)

/-- The fault reports of a read's chunks, in block order (R26). -/
def readReports (e : Entry) (chunks : List Chunk) : List Report :=
  chunks.mapIdx (fun k c => (k, c)) |>.filterMap fun kc =>
    match kc.2.result with
    | .corrected => some (.correctedData e.bank e.page (e.first + kc.1))
    | .uncorrectable => some (.uncorrectableData e.bank e.page (e.first + kc.1) e.requester e.tag)
    | .clean | .poisoned => none

/-- The fault reports of a write's or merge's partial chunks, in block order, where `olds` are the old chunks (R27). -/
def mergeReports (e : Entry) (w : WriteSlot) (olds : List Chunk) : List Report :=
  olds.mapIdx (fun k c => (k, c)) |>.filterMap fun kc =>
    if w.partialChunk kc.1 then
      match kc.2.result with
      | .clean => none
      | .corrected => some (.correctedData e.bank e.page (e.first + kc.1))
      | .uncorrectable | .poisoned => some (.mergePoison e.bank e.page (e.first + kc.1))
    else none

/-- The stored chunk numbers of an entry's block (R1). -/
def Entry.keys (e : Entry) : List Nat := (List.range e.size.chunks).map fun k => chunkKey e.bank e.page (e.first + k)

/-- The access of entry `e` on bank `b` is in progress and ends at instant `d` (R6, R7). -/
structure State.Completes (s : State) (b : BankNo) (kind : AccessKind) (d : Nat) (e : Entry) : Prop where
  running : s.rst = none
  state : (s.bank b).state = .accessing
  timer : (s.bank b).tAccess = some d
  access : (s.bank b).access = some kind
  entry : s.issuedOn b = some e

/-! ### words of the issue gate (section 1.8) -/

/-- A want of one of the three units that present wants to the issue gate (R28). -/
inductive Want where
  | sched (w : SchedWant)
  | renewal (w : RenWant)
  | haltClose
deriving DecidableEq, Repr

/-- The want is presented for the bank (R20, R28). -/
def State.Presents (s : State) (b : BankNo) : Want → Prop
  | .sched w => s.schedWant b = some w
  | .renewal w => s.renWant b = some w
  | .haltClose => s.port.mode = .halting ∧ (s.bank b).state = .opened

/-- The operation wanted. -/
def Want.op : Want → Op
  | .sched (.openFor e) => .openFor e
  | .sched (.access e) => .access e
  | .renewal .renew => .renew
  | .sched (.conflictClose _) | .sched .closeAfter | .sched .idleClose | .renewal .close | .haltClose => .close

/-- The entry that a want serves. -/
def Want.serves : Want → Option Entry
  | .sched (.openFor e) | .sched (.access e) | .sched (.conflictClose e) => some e
  | .sched .closeAfter | .sched .idleClose | .renewal _ | .haltClose => none

/-- R29: the class of a want. A normal entry is neither overdue nor expedited. -/
def State.wantClass (s : State) (b : BankNo) (w : Want) : Nat :=
  let debt := (s.ren.records.get b).debt
  match w.serves with
  | some e => if e.overdue then 2 else if e.priority = .expedited then 3 else if w = .sched (.access e) then 4 else 5
  | none =>
    match w with
    | .renewal _ => if (s.timing.urgentLevel : Int) ≤ debt then 1 else if 1 ≤ debt then 6 else 7
    | .sched .idleClose => 7
    | _ => 5

/-- R30: the kinds of want in one class, in order: in class 5 those serving an entry, close-after closes, halt closes; in
class 7 idle closes, pull-in renews. -/
def Want.kindOrder : Want → Nat
  | .sched .closeAfter | .renewal _ => 1
  | .haltClose => 2
  | .sched (.openFor _) | .sched (.access _) | .sched (.conflictClose _) | .sched .idleClose => 0

/-- R30: of two wants of one class and kind, the one serving the older entry (log 24: the lower `id`), or of the higher debt,
or of the lower bank number is first. -/
def State.firstOfKind (s : State) (a : BankNo) (v : Want) (b : BankNo) (w : Want) : Prop :=
  match v, w with
  | .renewal _, .renewal _ =>
    let debt := fun x => (s.ren.records.get x).debt
    debt b < debt a ∨ debt a = debt b ∧ a < b
  | _, _ =>
    match v.serves, w.serves with
    | some d, some e => d.id < e.id
    | _, _ => a < b

/-- R29, R30: the want `v` for bank `a` ranks ahead of the want `w` for bank `b`. -/
def State.RanksAhead (s : State) (a : BankNo) (v : Want) (b : BankNo) (w : Want) : Prop :=
  s.wantClass a v < s.wantClass b w ∨
    s.wantClass a v = s.wantClass b w ∧
      (v.kindOrder < w.kindOrder ∨ v.kindOrder = w.kindOrder ∧ s.firstOfKind a v b w)

/-- From `s` the gate issues the want that it chooses, then chooses again from the state that leaves, until it chooses none
and `t` stands (R30). -/
inductive IssuesTo : State → State → Prop
  | done {s : State} : s.choice = none → IssuesTo s s
  | issue {s t : State} {c : Cand} : s.choice = some c → IssuesTo (s.issue c) t → IssuesTo s t

/-! ### words of the host link (chapter 7) -/

/-- A frame of the kind, sequence and body given, with the ack and the credit of state `s` (R141, R191). -/
def State.laneFrame (s : State) (kind seq : Byte) (body : List Byte) : Option (List Byte) :=
  some (Frame.bytes
    { kind := kind, seq := seq, ack := s.link.expect - 1, credit := byteOf (8 - s.link.rx.length), body := body })

/-- R143: a new sequenced frame is numbered, appended to the replay ring and sent. -/
def State.sentNew (s : State) (f : OutFrame) : State :=
  { s with
    txLane := s.laneFrame f.kind s.link.nextSeq f.body
    link :=
      { s.link with
        ring := s.link.ring ++ [f]
        nextSeq := s.link.nextSeq + 1
        updateOwed := false
        ackTimer := if s.link.ring = [] then some (s.now + s.mgmt.active.link.ackTimeout * 1000) else s.link.ackTimer } }

/-- The transmit arbiter may take a frame of ranks 1 to 5, and no RESET-PART waits (R148). -/
structure State.Transmits (s : State) : Prop where
  running : s.rst = none
  noReset : s.mgmt.resetTaken = false

/-- No frame of ranks 1 and 2 is presented in UP, and the send limit allows a new frame (R144, R148). -/
structure State.SendsNew (s : State) : Prop extends s.Transmits where
  up : s.link.state = .up
  noAnswer : s.link.answers = []
  noOffer : s.link.offers = 0
  noReplay : s.link.replays = []
  noAck : s.link.updateOwed = false
  noResend : s.link.resend = none
  limit : s.link.ring.length < 32 ∧ s.link.ring.length < s.link.sendLimit.toNat

/-- No MANAGE-REPLY and no NOTICE is presented (R148 rank 3, R189). -/
structure State.NoRank3 (s : State) : Prop where
  busyHold : s.mgmt.busyHold = none
  replies : s.mgmt.replies = []
  notices : s.mgmt.notices = [] ∨ s.link.live = false

end Sys2Proof.Machine
end

