-- ==== Sys2Proof/WellFormed.lean ====
section
/-! DEFINITION. Which commands are well-formed: a frame command carries a frame of its own kind, and a disturbance names a
chunk of a block and 32 bytes. A command that is not changes nothing (log 1). -/

namespace Sys2Proof

open Machine in
/-- The bytes are a frame with a good check whose kind satisfies `p`. -/
def goodFrame (p : Byte → Bool) (bytes : List Byte) : Bool :=
  match parseFrame bytes with
  | some f => p f.kind
  | none => false

/-- A disturbance of a chunk that a block can hold. -/
def Upset.wellFormed (u : Upset) : Bool :=
  u.chunk < 8 &&
    match u.kind with
    | .oneBit _ => true
    | .anyBits d => d.length = 32

open Machine in
/-- A well-formed command. -/
def Instr.wellFormed : Instr → Bool
  | .badCheckFrame bytes => (parseFrame bytes).isNone
  | .inboundSequencedFrame bytes => goodFrame (fun k => !isControl k) bytes
  | .hostAck bytes => goodFrame (fun k => k = kindAck) bytes
  | .hostReplay bytes => goodFrame (fun k => k = kindReplay) bytes
  | .hostTrain bytes => goodFrame (fun k => k = kindTrain) bytes
  | .accessCompletion _ upsets => upsets.all Upset.wellFormed
  | .resetNAssert | .resetNRelease | .laneSignalPresent | .signalLoss | .ackTimerExpiry | .replayMarkTimerExpiry
  | .holdTimerExpiry | .offerTimerExpiry | .trainingTimeout | .recoveryTimeout | .transmitSelect | .read | .write
  | .maskedWrite | .cancel | .manageFrame | .get | .set | .setNoticeSettings | .commit | .discard | .enterRetain
  | .leaveRetain | .resetPart | .lapseClear | .clear | .tInitExpiry | .tExitExpiry | .tOaExpiry _ | .tDwellExpiry _
  | .tWrecExpiry _ | .tCloseExpiry _ | .tRenExpiry _ | .idleCloseExpiry _ | .tOoPassed | .tQuadPassed | .tTurnPassed
  | .tick | .unknownOperation => true

end Sys2Proof
end

