-- ==== Sys2Proof/Certificates/Slice0/Obligations.lean ====
section
/-! DEFINITION. The statements for the provers. Where an event can change a want, the state it leaves is written
`u.settle`: `u` holds the event's own effect, and IssueGateChoosesBest, SettleFrame, HaltAndDrainAdvance and IssueEffects
say what `settle` adds. -/

open Sys2Proof Sys2Proof.Machine

/-! ### steps -/

/-- A step takes the command at the front of the queue and runs it on the state with the queue's rest. With none waiting it
is the passing of 1 ns and nothing else, which is the model's choice (log 2; section 11.5 gives the clock 1 ns). -/
def Obligations.StepRunsFrontCommand : Prop :=
  (∀ (c : Instr) (s : State), step { s with pending := c :: s.pending } = exec c s) ∧
  (∀ s : State, s.pending = [] → step s = .next { s with now := s.now + 1 })

/-- "No fault halts the part" (R183): every command, well-formed or not, answers a next state from every state, and no
command touches the queue of waiting commands. A request waits while the unit that takes it may not (R50, R62, R87, R90,
R130, R153), and a frame command that carries no frame of its kind changes nothing (log 1). -/
def Obligations.EveryCommandAnswers : Prop :=
  (∀ (c : Instr) (s : State), ∃ t, exec c s = .next t ∧ t.pending = s.pending) ∧
  (∀ (k : ReqKind) (s : State), s.adm.replyHold ≠ none → exec k.command s = .next s) ∧
  (∀ s : State, s.sched.cancelHold ≠ none → exec .cancel s = .next s) ∧
  (∀ (row : Row) (s : State), s.mgmt.queue = [] ∨ s.mgmt.replies ≠ [] ∨ s.mgmt.resetTaken = true →
    exec row.command s = .next s) ∧
  (∀ bytes : List Byte,
     let carries : (Byte → Prop) → Prop := fun kinds => ∃ f, parseFrame bytes = some f ∧ kinds f.kind
     ((Instr.badCheckFrame bytes).wellFormed = true ↔ parseFrame bytes = none) ∧
     ((Instr.inboundSequencedFrame bytes).wellFormed = true ↔ carries fun k => k ≠ 0x70 ∧ k ≠ 0x71 ∧ k ≠ 0x72) ∧
     ((Instr.hostAck bytes).wellFormed = true ↔ carries fun k => k = 0x70) ∧
     ((Instr.hostReplay bytes).wellFormed = true ↔ carries fun k => k = 0x71) ∧
     ((Instr.hostTrain bytes).wellFormed = true ↔ carries fun k => k = 0x72)) ∧
  ∀ (c : Instr) (s : State), c.wellFormed = false → (∀ b ups, c ≠ .accessCompletion b ups) → exec c s = .next s

/-! ### reset and start (chapter 9) -/

/-- RESET_N_ASSERT (R172, R24): the start kind is decided, every block takes its reset values, and after a warm start
alone the array keeps every chunk as it stood at the hold. The part state machine is kept until the end of the reset (log
4). "While RESET_N is asserted, the part takes no frame, sends nothing and issues nothing to the array": of the commands
other than the release of RESET_N, the two of the lane signal change the pin alone, and the rest change nothing. That a
second assertion changes nothing is log 4. -/
def Obligations.ResetAssertion : Prop :=
  (∀ s : State, s.rst = none →
     let kind : StartKind := if s.mgmt.part.state = .retained ∧ s.port.mode = .held then .warm else .cold
     ∃ t, exec .resetNAssert s = .next t ∧ t.InReset kind ∧ t.mgmt.part = s.mgmt.part ∧ t.now = s.now ∧
       t.draws = s.draws ∧ t.laneSignal = s.laneSignal ∧ t.txLane = s.txLane ∧ (kind = .cold → t.array = []) ∧
       (kind = .warm → t.array = s.array)) ∧
  (∀ (s : State) (kind : StartKind), s.rst = some kind →
     (∀ c, c ≠ .resetNRelease → c ≠ .laneSignalPresent → c ≠ .signalLoss → exec c s = .next s) ∧
     exec .laneSignalPresent s = .next { s with laneSignal := true } ∧
     exec .signalLoss s = .next { s with laneSignal := false })

/-- RESET_N_RELEASE (R16, R24, R32, R42, R130, R131, R158, R172, R190): from the state a reset leaves, every register has its reset value, T_INIT or
the wake with T_EXIT starts, the part is STARTING, the STARTED record is queued, and the link is in TRAINING exactly where
the lane signal is present. Both copies of every staged object hold the DEFAULT column of section 1.5, invalid windows, the
reset requester entries and the LINK-SETTINGS defaults. The state that the model starts from is the one that a cold reset
leaves as it ends, which is the model's choice (log 3). -/
def Obligations.ResetRelease : Prop :=
  let down : Link :=
    { state := .down, session := 0, live := false, expect := 0, nextSeq := 0, rx := [], ring := [], resend := none
      sendLimit := 0, expiries := 0, replayMark := none, updateOwed := false, ackTimer := none, markTimer := none
      holdTimer := none, offerTimer := none, stateTimer := none, rr := 0, replyTurn := .refuse, answers := []
      offers := 0, replays := [] }
  (∀ (s : State) (kind : StartKind), s.InReset kind →
    ∃ t, exec .resetNRelease s = .next t ∧ t.rst = none ∧ t.Started kind s.array s.now ∧ t.now = s.now ∧
      t.draws = s.draws ∧ t.laneSignal = s.laneSignal ∧ t.txLane = s.txLane ∧
      (s.laneSignal = false → t.link = down) ∧
      (s.laneSignal = true → t.link =
        { down with
          state := .training
          offers := 1
          offerTimer := some (s.now + 100000)
          stateTimer := some (s.now + 8000000) })) ∧
  (let o := Objects.reset
   o.timing =
     { tOa := 30, tDwell := 60, tClose := 30, tWrec := 30, tRd := 20, tWr := 20, tRen := 200, tOo := 15, tQuad := 60
       tTurn := 10, tExit := 250, renewalInterval := 32, renewalRate := 1, urgentLevel := 6, idleClose := 50
       mapMode := .bankFirst } ∧
   (∀ i, o.windows.get i =
     { valid := false, logicalBase := 0, sizeExp := 0, physicalBase := 0, readSet := 0, writeSet := 0
       policy := .keepOpen, content := .retained }) ∧
   o.requesters.get 0 =
     { enabled := true, manager := true, quota := 16, order := .ordered, ackPoint := .commit, returnOrder := .linear
       ageLimit := 16 } ∧
   (∀ r, r ≠ 0 → o.requesters.get r =
     { enabled := false, manager := false, quota := 0, order := .unordered, ackPoint := .commit, returnOrder := .linear
       ageLimit := 16 }) ∧
   o.link = { ackTimeout := 20, holdTime := 1000 }) ∧
  (∀ st : BankState, Bank.idle st =
     { state := st, openPage := none, dwellMet := true, recoveryMet := true, access := none, tOa := none, tDwell := none
       tAccess := none, tClose := none, tWrec := none, tRen := none, oldChunks := [] }) ∧
  Link.reset = down ∧ State.reset.rst = none ∧ State.reset.Started .cold [] 0 ∧ State.reset.link = down ∧
  State.reset.now = 0 ∧ State.reset.pending = [] ∧ State.reset.laneSignal = false ∧ State.reset.txLane = none

/-- T_INIT_EXPIRY and T_EXIT_EXPIRY (R10, R18, R23, R97, R173, R180): the mode becomes RUN where no halt request stands,
with the part SERVING, and HALTING otherwise; the tick timer starts; after T_EXIT every bank is CLOSED. That the clock
moves to the expiry's instant, or stays where it is later, is the model's (log 2). -/
def Obligations.StartIntervalsEnd : Prop :=
  ∀ (s : State) (d : Nat), s.rst = none →
    let halted : Bool := s.port.commitHalt || s.port.drainHalt
    let mode : PortMode := if halted then .halting else .run
    let period := s.timing.renewalInterval * 100 / s.timing.renewalRate
    let tick : TickTimer := { at_ := max s.now d + period, period := period }
    let state : PartState :=
      if halted = false ∧ (s.mgmt.part.state = .starting ∨ s.mgmt.part.state = .resuming) then .serving
      else s.mgmt.part.state
    (s.port.mode = .init → s.port.tInit = some d →
      exec .tInitExpiry s =
        .next ({ s with
          now := max s.now d
          port := { s.port with tInit := none, mode := mode }
          ren := { s.ren with tick := some tick }
          mgmt := { s.mgmt with part := { s.mgmt.part with state := state } } } : State).settle) ∧
    (s.port.mode = .waking → s.port.tExit = some d →
      exec .tExitExpiry s =
        .next ({ s with
          now := max s.now d
          port := { s.port with tExit := none, mode := mode, banks := Table.fill 16 (Bank.idle .closed) }
          ren := { s.ren with tick := some tick }
          mgmt := { s.mgmt with part := { s.mgmt.part with state := state } } } : State).settle)

/-- RESET_PART (R24, R130, R172). Taken out of UP, the reset is taken and ends at once. Taken in UP, an ACK is owed and the
reset waits (as a flag that the model holds, log 19); the next selection of the transmit arbiter sends one frame and takes
it. A warm start keeps every chunk. RecoveryEntry has the link that leaves UP while the reset waits. -/
def Obligations.ResetPartResets : Prop :=
  (∀ (s : State) (body : List Byte) (rest : List (List Byte)), s.Takes .resetPart body rest → s.requestTests body = none →
    (s.link.state = .up →
      exec .resetPart s =
        .next { s with
          mgmt := { s.mgmt with queue := rest, resetTaken := true }
          link := { s.link with updateOwed := true } }) ∧
    (s.link.state ≠ .up →
      let kind : StartKind := if s.mgmt.part.state = .retained ∧ s.port.mode = .held then .warm else .cold
      ∃ t, exec .resetPart s = .next t ∧ t.rst = none ∧
        t.Started kind (if kind = .warm then s.array else []) s.now)) ∧
  ∀ s : State, s.rst = none → s.mgmt.resetTaken = true → s.link.state = .up → s.link.updateOwed = true →
    let kind : StartKind := if s.mgmt.part.state = .retained ∧ s.port.mode = .held then .warm else .cold
    ∃ t, exec .transmitSelect s = .next t ∧ t.rst = none ∧
      t.Started kind (if kind = .warm then s.array else []) s.now ∧
      (s.link.answers = [] → s.link.offers = 0 → s.link.replays = [] → t.txLane = s.laneFrame kindAck 0 [])

/-! ### array port (chapters 1 and 5) -/

/-- T_OA_EXPIRY, T_DWELL_EXPIRY, T_WREC_EXPIRY and T_CLOSE_EXPIRY (R5, R7, R8): each changes its bank record alone.
T_REN_EXPIRY (R9, R103): the bank becomes CLOSED, and its debt falls by 1 where it is not exempt. That the clock moves to
the expiry's instant, or stays where it is later, is the model's (log 2). -/
def Obligations.BankTimersExpire : Prop :=
  (∀ (s : State) (b : BankNo), s.bank b = s.port.banks.get b) ∧
  (∀ (s : State) (b : BankNo) (d : Nat), s.rst = none →
     let after : Bank → State := fun r =>
       ({ s with now := max s.now d, port := { s.port with banks := s.port.banks.set b r } } : State).settle
     ((s.bank b).state = .opening → (s.bank b).tOa = some d →
       exec (.tOaExpiry b) s = .next (after { s.bank b with state := .opened, tOa := none })) ∧
     ((s.bank b).tDwell = some d →
       exec (.tDwellExpiry b) s = .next (after { s.bank b with dwellMet := true, tDwell := none })) ∧
     ((s.bank b).tWrec = some d →
       exec (.tWrecExpiry b) s = .next (after { s.bank b with recoveryMet := true, tWrec := none })) ∧
     ((s.bank b).state = .closing → (s.bank b).tClose = some d →
       exec (.tCloseExpiry b) s = .next (after { s.bank b with state := .closed, tClose := none }))) ∧
  (∀ (s : State) (b : BankNo) (d : Nat), s.rst = none → (s.bank b).state = .renewing → (s.bank b).tRen = some d →
     let r := s.ren.records.get b
     exec (.tRenExpiry b) s =
       .next ({ s with
         now := max s.now d
         port := { s.port with banks := s.port.banks.set b { s.bank b with state := .closed, tRen := none } }
         ren :=
           { s.ren with
             records := s.ren.records.set b { r with debt := if r.exempt then r.debt else r.debt - 1 } } } : State).settle)

/-- IDLE_CLOSE_EXPIRY (R77), and T_OO_PASSED, T_QUAD_PASSED and T_TURN_PASSED (R11, R12, R14): at the instant of each the
test it names is met, and nothing else changes before the wants are formed again. What each test is comes first. That the three are the moments at which
the interval has passed, and that each command moves the clock to its instant, is the model's (log 2). -/
def Obligations.IdleCloseAndIntervals : Prop :=
  (∀ s : State, s.timing = s.mgmt.active.timing ∧
     (s.ooMet = true ↔ ∀ t, s.port.history.getLast? = some t → t + s.timing.tOo ≤ s.now) ∧
     (s.quadMet = true ↔
       (4 ≤ s.port.history.length → ∀ t, s.port.history.head? = some t → t + s.timing.tQuad ≤ s.now)) ∧
     ∀ d, s.turnMet d = true ↔ s.port.direction = .noDir ∨ s.port.direction = d ∨
       ∀ t, s.port.lastAccess = some t → t + s.timing.tTurn ≤ s.now) ∧
  ∀ (s : State) (t : Nat), s.rst = none →
    (∀ b, s.sched.idle.get b = .running t →
      exec (.idleCloseExpiry b) s =
        .next ({ s with now := max s.now t, sched := { s.sched with idle := s.sched.idle.set b .expired } } : State).settle) ∧
    (s.port.history.getLast? = some t →
      let u : State := { s with now := max s.now (t + s.timing.tOo) }
      exec .tOoPassed s = .next u.settle ∧ u.ooMet = true) ∧
    (∀ ts, s.port.history = t :: ts → 4 ≤ s.port.history.length →
      let u : State := { s with now := max s.now (t + s.timing.tQuad) }
      exec .tQuadPassed s = .next u.settle ∧ u.quadMet = true) ∧
    (s.port.lastAccess = some t →
      let u : State := { s with now := max s.now (t + s.timing.tTurn) }
      exec .tTurnPassed s = .next u.settle ∧ ∀ d, u.turnMet d = true)

/-- ACCESS_COMPLETION of a read (R7, R26, R70, R76, R114, R116, R126). `chunks` are what the access finds. The slot takes
their data, check results and the bank's lapse flag and the place becomes READY with DATA; a slot marked for discard
becomes FREE and no place changes. Nothing outside the block changes in the array, and in the block only by the
disturbances found. The model's own: the disturbances come with the command and stay in the array (log 7), a chunk whose
contents are not guaranteed is a free value (log 6), as is every chunk of an exempt bank (log 10), and the clock (log
2). Before that, what the statement's words are: the check result and the data of a chunk by the rows of R26, where the
record of how a check code stands to its data is the model's (log 5); a chunk under the disturbances that name it (log 7);
the ISSUED entry of a bank; and an exempt bank. -/
def Obligations.ReadCompletes : Prop :=
  (∀ c : Chunk,
     let flipped : Nat → List Byte := fun pos => c.data.modify (pos / 8) fun x => x ^^^ (1#8 <<< (pos % 8))
     (c.poison = true → c.result = .poisoned ∧ c.checked = c.data) ∧
     (c.poison = false → c.check = .agrees → c.result = .clean ∧ c.checked = c.data) ∧
     (∀ pos, c.poison = false → c.check = .oneBit pos → c.result = .corrected ∧ c.checked = flipped pos) ∧
     (c.poison = false → c.check = .broken → c.result = .uncorrectable ∧ c.checked = c.data) ∧
     (∀ k, c.found [] k = c) ∧
     ∀ (u : Upset) (ups : List Upset) (k : Nat), c.found (u :: ups) k =
       Chunk.found
         (if u.chunk = k then
           match u.kind with
           | .oneBit pos =>
             { c with data := flipped pos, check := if c.check = .agrees then .oneBit pos else .broken }
           | .anyBits data => if data.length = 32 then { c with data := data, check := .broken } else c
         else c) ups k) ∧
  (∀ (s : State) (b : BankNo) (e : Entry), s.issuedOn b = some e ↔ ∃ older younger,
     s.sched.list = older ++ e :: younger ∧ e.bank = b ∧ e.state = .issued ∧
       ∀ x ∈ older, ¬(x.bank = b ∧ x.state = .issued)) ∧
  (∀ (s : State) (b : BankNo), s.exemptBank b = (s.ren.records.get b).exempt) ∧
  ∀ (s : State) (b : BankNo) (d : Nat) (e : Entry) (ups : List Upset) (i : Fin 32) (o : SlotOwner) (discard : Bool),
    s.Completes b .read d e → e.kind = .read → e.writeSlot = none → e.respSlot = some i →
    s.resp.slots.get i = .reserved o discard →
    ∃ (chunks : List Chunk) (array : Store) (draws : Nat), s.Finds e ups chunks ∧
      (∀ k, k ∉ e.keys → array.find k = s.array.find k) ∧
      (∀ k < e.size.chunks, array.find (chunkKey e.bank e.page (e.first + k)) =
        (s.array.find (chunkKey e.bank e.page (e.first + k))).map fun c => c.found ups k) ∧
      (let results := chunks.map Chunk.result
       let lapse := (s.ren.records.get e.bank).lapse
       exec (.accessCompletion b ups) s =
        .next ({ s with
          now := max s.now d
          draws := draws
          array := array
          port :=
            { s.port with
              banks :=
                s.port.banks.set b { s.bank b with state := .opened, access := none, tAccess := none, oldChunks := [] }
              direction := .read
              lastAccess := some (max s.now d) }
          sched :=
            { s.sched with
              list := relink (s.sched.list.filter fun x => x.id ≠ e.id)
              closeAfter := s.sched.closeAfter.set b (e.policy = .closeAfter) }
          resp :=
            if discard then { s.resp with slots := s.resp.slots.set i .free }
            else
              { slots := s.resp.slots.set i (.filled o (chunks.flatMap Chunk.checked) results lapse)
                orders := s.resp.orders.set o.requester ((s.resp.orders.get o.requester).map fun p =>
                  if p.tag = o.tag ∧ p.state = .owed then
                    { p with state := .data (dataStatus results lapse) i (badList o results) }
                  else p) }
          mgmt := ((readReports e chunks).foldl State.report s).mgmt } : State).settle)

/-- ACCESS_COMPLETION of a write or merge (R7, R25, R26, R27, R70, R76, R119, R126), chunk by chunk: a fully enabled chunk
is stored anew, a partial one merged with its old chunk, and one with no enable on is untouched. `olds` are the old chunks,
as the merge read them at its start, whatever has become of the bank's contents since (R27); ReadCompletes has their check
results. A chunk is partial where some of its enables are on and some off, and its old chunk alone is reported. The place of a tag-holding
entry becomes READY with DONE. The model's own: where the old chunks are held and that the disturbances come at the
completion (log 7, 8), the free values of old chunks that were not guaranteed at the start (log 6, 9, 10), that a chunk
stored in an exempt bank is kept until it leaves the exemption (log 10), and the clock (log 2). -/
def Obligations.WriteCompletes : Prop :=
  (∀ (w : WriteSlot) (k : Nat), w.enables.length = 256 → k < 8 →
     (w.partialChunk k = true ↔ (∃ n < 32, w.enables.getD (32 * k + n) false = true) ∧
       ∃ n < 32, w.enables.getD (32 * k + n) false = false)) ∧
  ∀ (s : State) (b : BankNo) (d : Nat) (e : Entry) (kind : AccessKind) (ups : List Upset) (j : Fin 32) (w : WriteSlot),
    s.Completes b kind d e → kind ≠ .read → e.kind ≠ .read → e.writeSlot = some j → s.adm.slots.get j = some w →
    w.enables.length = 256 →
    let on : Nat → Nat → Bool := fun k n => w.enables.getD (32 * k + n) false
    ∃ (olds : List Chunk) (array : Store) (draws : Nat), s.FoundAtStart b e ups olds ∧
      (∀ k, k ∉ e.keys → array.find k = s.array.find k) ∧
      (∀ k < e.size.chunks,
        let now := array.find (chunkKey e.bank e.page (e.first + k))
        ((∀ n < 32, on k n = true) →
          now = some { data := (w.data.drop (32 * k)).take 32, check := .agrees, poison := false }) ∧
        ((∀ n < 32, on k n = false) → now = s.array.find (chunkKey e.bank e.page (e.first + k))) ∧
        ((∃ n < 32, on k n = true) → (∃ n < 32, on k n = false) →
          ∃ old c, olds[k]? = some old ∧ now = some c ∧ c.check = .agrees ∧ c.data.length = 32 ∧
            (c.poison = true ↔ old.result = .uncorrectable ∨ old.result = .poisoned) ∧
            ∀ n < 32, c.data.getD n 0 =
              if on k n then w.data.getD (32 * k + n) 0 else old.checked.getD n 0)) ∧
      (let poisoned : Prop := ∃ k < e.size.chunks, ∃ old, olds[k]? = some old ∧ (∃ n < 32, on k n = true) ∧
          (∃ n < 32, on k n = false) ∧ (old.result = .uncorrectable ∨ old.result = .poisoned)
       ∃ st : DoneStatus, (st = .poisoned ↔ poisoned) ∧
        exec (.accessCompletion b ups) s =
          .next ({ s with
            now := max s.now d
            draws := draws
            array := array
            port :=
              { s.port with
                banks := s.port.banks.set b
                  { s.bank b with
                    state := .opened, access := none, tAccess := none, oldChunks := [], recoveryMet := false
                    tWrec := some (max s.now d + s.timing.tWrec) }
                direction := .write
                lastAccess := some (max s.now d) }
            adm := { s.adm with slots := s.adm.slots.set j none }
            sched :=
              { s.sched with
                list := relink (s.sched.list.filter fun x => x.id ≠ e.id)
                closeAfter := s.sched.closeAfter.set b (e.policy = .closeAfter) }
            resp :=
              if e.tagHeld then
                { s.resp with
                  orders := s.resp.orders.set e.requester ((s.resp.orders.get e.requester).map fun p =>
                    if p.tag = e.tag ∧ p.state = .owed then { p with state := .done st } else p) }
              else s.resp
            mgmt := ((mergeReports e w olds).foldl State.report s).mgmt } : State).settle)

/-- TICK (R97, R98, R108): every non-exempt debt rises by 1 and stops at +8, where the tick is an overrun: the lapse flag is
set and a fault raised, in ascending bank number, and the bank's contents are no longer guaranteed (log 11). The next
period starts at once; that it is counted from the clock the command leaves, which may be late, is the model's (log 2). -/
def Obligations.TickRaisesDebts : Prop :=
  ∀ (s : State) (t : TickTimer), s.rst = none → s.ren.tick = some t →
    let period := s.timing.renewalInterval * 100 / s.timing.renewalRate
    let overran : BankNo → Bool := fun b => !(s.ren.records.get b).exempt && decide (8 ≤ (s.ren.records.get b).debt)
    ∃ (array : Store) (records : Table 16 Renewal),
      (∀ b page chunk, page < 32768 → chunk < 64 →
        array.find (chunkKey b page chunk) = if overran b then none else s.array.find (chunkKey b page chunk)) ∧
      (∀ b, records.get b =
        if (s.ren.records.get b).exempt then s.ren.records.get b
        else if overran b then { s.ren.records.get b with lapse := true }
        else { s.ren.records.get b with debt := (s.ren.records.get b).debt + 1 }) ∧
      exec .tick s =
        .next ({ s with
          now := max s.now t.at_
          array := array
          ren := { records := records, tick := some { at_ := max s.now t.at_ + period, period := period } }
          mgmt := ((((List.finRange 16).filter overran).map Report.renewalOverrun).foldl State.report s).mgmt } : State).settle

/-- R2: the bank, the page and the chunk in page of a physical chunk number under each map mode. R34: where a request's block
starts, how long it is, and when a window contains it. R1, R2: under either map mode the 33,554,432 physical chunk numbers and the stored chunks correspond one to one. R34,
R35, R41: the block of a well-formed request, translated through a window that contains it and ends at or below 1024 MiB,
lies in the array and in one page of one bank, aligned to its own size; the chunk the address names keeps its place in
the block. -/
def Obligations.TranslationStaysInArray : Prop :=
  (∀ p, p < 33554432 →
     (bankOf .bankFirst p).val = p / 64 % 16 ∧ pageOf .bankFirst p = p / 1024 ∧
     (bankOf .pageFirst p).val = p / 2097152 ∧ pageOf .pageFirst p = p / 64 % 32768 ∧ chunkOf p = p % 64) ∧
  ([BlockSize.c1, .c2, .c4, .c8].map BlockSize.chunks = [1, 2, 4, 8] ∧
   (∀ sz : BlockSize, sz.bytes = sz.chunks * 32) ∧
   (∀ (k : ReqKind) (q : DataReq), blockStart k q =
     if k = .read then q.address - q.address % (q.size.chunks * 32) else q.address) ∧
   ∀ (w : Window) (start len : Nat), w.contains start len = true ↔
     w.valid = true ∧ w.logicalBase * 1048576 ≤ start ∧ start + len ≤ (w.logicalBase + 2 ^ w.sizeExp) * 1048576) ∧
  (∀ m : MapMode,
     (∀ p, p < 33554432 →
       pageOf m p < 32768 ∧ chunkOf p < 64 ∧ chunkKey (bankOf m p) (pageOf m p) (chunkOf p) < 33554432) ∧
     (∀ p q, p < 33554432 → q < 33554432 →
       chunkKey (bankOf m p) (pageOf m p) (chunkOf p) = chunkKey (bankOf m q) (pageOf m q) (chunkOf q) → p = q) ∧
     (∀ (b : BankNo) page chunk, page < 32768 → chunk < 64 →
       ∃ p, p < 33554432 ∧ bankOf m p = b ∧ pageOf m p = page ∧ chunkOf p = chunk)) ∧
  (∀ (m : MapMode) (k : ReqKind) (body : List Byte) (q : DataReq) (w : Window), parseReq k body = some q →
     w.contains (blockStart k q) q.size.bytes = true → w.physicalBase + 2 ^ w.sizeExp ≤ 1024 →
     let p := w.translate (blockStart k q)
     p * 32 = w.physicalBase * 1048576 + (blockStart k q - w.logicalBase * 1048576) ∧ p % q.size.chunks = 0 ∧
     p + q.size.chunks ≤ 33554432 ∧ pageOf m p < 32768 ∧ chunkOf p + q.size.chunks ≤ 64 ∧
     (∀ n < q.size.chunks, bankOf m (p + n) = bankOf m p ∧ pageOf m (p + n) = pageOf m p ∧
       chunkOf (p + n) = chunkOf p + n) ∧
     w.translate q.address = p + (q.address - blockStart k q) / 32)

/-! ### issue gate (sections 1.8, 4.3 to 4.5) -/

/-- What an issue does (R4, R6, R8, R9, R12, R27, R76, R77, R81, R82, R83, R113), bank by bank and entry by entry, and when
an access is a READ, a WRITE or a MERGE (R6). A merge reads the old chunks at its start, those whose contents are
guaranteed then (R27; log 8, 10). For an access, the pending list is kept in age order, so older entries have the lower
`id` (log 24). -/
def Obligations.IssueEffects : Prop :=
  ∀ (s : State) (b : BankNo) (e : Entry) (rank : List Nat),
    (s.port.history.length ≤ 4 →
      let h := s.port.history ++ [s.now]
      s.issue { bank := b, op := .openFor e, rank := rank } =
        { s with port :=
          { s.port with
            banks := s.port.banks.set b
              { s.bank b with
                state := .opening, openPage := some e.page, dwellMet := false
                tOa := some (s.now + s.timing.tOa), tDwell := some (s.now + s.timing.tDwell) }
            history := h.drop (h.length - 4) } }) ∧
    s.issue { bank := b, op := .close, rank := rank } =
      { s with
        port :=
          { s.port with
            banks := s.port.banks.set b
              { s.bank b with state := .closing, openPage := none, tClose := some (s.now + s.timing.tClose) } }
        sched := { s.sched with
          closeAfter := s.sched.closeAfter.set b false, idle := s.sched.idle.set b .stopped } } ∧
    s.issue { bank := b, op := .renew, rank := rank } =
      { s with
        port :=
          { s.port with
            banks := s.port.banks.set b
              { s.bank b with state := .renewing, tRen := some (s.now + s.timing.tRen) } } } ∧
    (let partly : WriteSlot → Nat → Prop := fun w k =>
      (∃ n < 32, w.enables.getD (32 * k + n) false = true) ∧ ∃ n < 32, w.enables.getD (32 * k + n) false = false
     (e.kind = .read → s.accessKind e = .read) ∧ (e.kind = .write → s.accessKind e = .write) ∧
     ∀ j w, e.kind = .masked → e.writeSlot = some j → s.adm.slots.get j = some w → w.enables.length = 256 →
       ((∃ k < e.size.chunks, partly w k) → s.accessKind e = .merge) ∧
       ((∀ k < e.size.chunks, ¬partly w k) → s.accessKind e = .write)) ∧
    (s.sched.list.Pairwise (fun x y => x.id < y.id) → e ∈ s.sched.list →
      let kind := s.accessKind e
      let olds : List (Option Chunk) :=
        if kind = .merge then
          (List.range e.size.chunks).map fun k =>
            if s.exemptBank e.bank = true then none else s.array.find (chunkKey e.bank e.page (e.first + k))
        else []
      let slot : Option (Fin 32) := if e.kind = .read then s.resp.slots.findIdx? (fun x => x = .free) else none
      let time := match kind with
        | .read => s.timing.tRd
        | .write => s.timing.tWr
        | .merge => s.timing.tRd + s.timing.tWr
      let limit : Entry → Nat := fun x => (s.mgmt.active.requesters.get x.requester).ageLimit
      ∃ t, s.issue { bank := b, op := .access e, rank := rank } = t ∧
        t.port =
          { s.port with
            banks := s.port.banks.set b
              { s.bank b with
                state := .accessing, access := some kind, tAccess := some (s.now + time), oldChunks := olds } } ∧
        t.sched.list = s.sched.list.map (fun x =>
          if x.id = e.id then { x with state := .issued, respSlot := if slot = none then x.respSlot else slot }
          else if x.id < e.id ∧ x.state = .waiting ∧ x.blockedBy = none ∧ x.bypass < 255 then
            { x with bypass := x.bypass + 1, overdue := x.overdue || decide (limit x ≤ x.bypass + 1) }
          else x) ∧
        t.resp.slots = (match slot with | some i => s.resp.slots.set i (.reserved e.slotOwner false) | none => s.resp.slots) ∧
        t = { s with port := t.port, sched := { s.sched with list := t.sched.list },
                     resp := { s.resp with slots := t.resp.slots } })

/-- R28 to R30 with R11 to R15: after every event that can change a want the mode changes come, then the idle-close timers
that start (R77), then the gate: this order within the event is the model's reading (log 23). The gate issues its choice,
one at a time, until no want is permitted. What it chooses is a permitted want than which none ranks higher, and it chooses
whenever one is permitted. The candidates are the wants presented, and they rank by the classes of R29 and the orders of
R30, where the pending list is in age order (log 24) and no debt is above +8. Last, what must hold for a want to be
permitted. A read and a merge start as reads and a write as a write (R6); an access held back only by T_TURN, and nothing
else, is held by the turn, and an access that ranks below one held so waits (R14). -/
def Obligations.IssueGateChoosesBest : Prop :=
  (∀ s : State, s.settle.choice = none ∧ IssuesTo s.advance.startIdle s.settle ∧
     (∀ c, s.choice = some c → c ∈ s.cands ∧ s.permitted c = true ∧
       ∀ d ∈ s.cands, s.permitted d = true → rankLt d.rank c.rank = false) ∧
     (s.choice = none → ∀ c ∈ s.cands, s.permitted c = false)) ∧
  (∀ s : State, ∃ idle : Table 16 IdleTimer, s.startIdle = { s with sched := { s.sched with idle := idle } } ∧
     ∀ b, idle.get b =
       if s.sched.idle.get b = .stopped ∧ (s.bank b).state = .opened ∧ (∀ e ∈ s.sched.list, e.bank ≠ b) ∧
          s.timing.idleClose ≠ 0 then .running (s.now + s.timing.idleClose * 20)
       else s.sched.idle.get b) ∧
  (∀ s : State, s.sched.list.Pairwise (fun x y => x.id < y.id) → (∀ b, (s.ren.records.get b).debt ≤ 8) →
     ∃ cand : BankNo → Want → Cand, (∀ b w, (cand b w).bank = b ∧ (cand b w).op = w.op) ∧
       (∀ c, c ∈ s.cands ↔ ∃ b w, s.Presents b w ∧ c = cand b w) ∧
       ∀ a v b w, s.Presents a v → s.Presents b w →
         (rankLt (cand a v).rank (cand b w).rank = true ↔ s.RanksAhead a v b w)) ∧
  (∀ (s : State) (b : BankNo) (e : Entry) (rank : List Nat), s.port.history.length ≤ 4 →
     (s.permitted { bank := b, op := .openFor e, rank := rank } = true ↔
       s.port.mode = .run ∧ (s.bank b).state = .closed ∧
         (∀ t, s.port.history.getLast? = some t → t + s.timing.tOo ≤ s.now) ∧
         (s.port.history.length = 4 → ∀ t, s.port.history.head? = some t → t + s.timing.tQuad ≤ s.now)) ∧
     (let allowed : Prop := s.port.mode = .run ∧ (s.bank b).state = .opened ∧ (s.bank b).openPage = some e.page ∧
        (∀ x, (s.bank x).state ≠ .accessing) ∧ (e.kind = .read → s.mayReserve e = true)
      let start : Direction := match s.accessKind e with
        | .read | .merge => .read
        | .write => .write
      let turned : Prop := s.port.direction = .noDir ∨ s.port.direction = start ∨ s.port.lastAccess = none ∨
        ∃ t, s.port.lastAccess = some t ∧ t + s.timing.tTurn ≤ s.now
      (s.turnHeld { bank := b, op := .access e, rank := rank } = true ↔ allowed ∧ ¬turned) ∧
      (∀ h, s.turnHeld h = true → ∃ x, h.op = .access x) ∧
      (s.permitted { bank := b, op := .access e, rank := rank } = true ↔
        allowed ∧ turned ∧ ∀ h ∈ s.cands, s.turnHeld h = true → rankLt h.rank rank = false)) ∧
     (s.permitted { bank := b, op := .close, rank := rank } = true ↔
       (s.port.mode = .run ∨ s.port.mode = .halting) ∧ (s.bank b).state = .opened ∧ (s.bank b).dwellMet = true ∧
         (s.bank b).recoveryMet = true) ∧
     (s.permitted { bank := b, op := .renew, rank := rank } = true ↔
       (s.port.mode = .run ∨ s.port.mode = .halting ∨ s.port.mode = .halted ∧ s.port.holdReq = false) ∧
         (s.bank b).state = .closed ∧ s.banksIn .renewing < 2))

/-- R73, R74, R75, R79, R99: which entries are eligible and which ready, which banks are urgent, the chosen entry, and the
scheduler's want for a bank by the rows of R74. -/
def Obligations.SchedulerWants : Prop :=
  (∀ (s : State) (e : Entry),
     (e.eligible = true ↔ e.state = .waiting ∧ e.blockedBy = none) ∧
     (s.ready e = true ↔ e.state = .waiting ∧ e.blockedBy = none ∧
       (e.kind = .write ∨ e.kind = .masked ∨ s.mayReserve e = true))) ∧
  (∀ (s : State) (b : BankNo), s.urgent b = true ↔
     (s.ren.records.get b).exempt = false ∧ (s.mgmt.active.timing.urgentLevel : Int) ≤ (s.ren.records.get b).debt) ∧
  (∀ (l : List Entry) (e : Entry), chosen l = some e → ∃ older younger, l = older ++ e :: younger ∧
    (e.overdue = true ∧ (∀ x ∈ older, x.overdue = false) ∨
      (∀ x ∈ l, x.overdue = false) ∧ e.priority = .expedited ∧ (∀ x ∈ older, x.priority = .normal) ∨
      (∀ x ∈ l, x.overdue = false ∧ x.priority = .normal) ∧ older = [])) ∧
  (∀ l, chosen l = none ↔ l = []) ∧
  ∀ (s : State) (b : BankNo),
    let ready := s.sched.list.filter fun e => e.bank = b && s.ready e
    (s.urgent b = true → s.schedWant b = none) ∧
    (s.urgent b = false → (s.bank b).openPage = none → s.schedWant b = (chosen ready).map .openFor) ∧
    (∀ p, s.urgent b = false → (s.bank b).openPage = some p →
      let hits := ready.filter fun e => e.page = p
      let misses := ready.filter fun e => e.page ≠ p
      let row1 : Prop := (∃ e ∈ misses, e.overdue = true) ∧ ∀ e ∈ hits, e.overdue = false
      let mark : Prop := s.sched.closeAfter.get b = true ∧ ∀ e ∈ s.sched.list, ¬(e.bank = b ∧ e.page = p)
      let idle : Prop := (∀ e ∈ s.sched.list, e.bank ≠ b) ∧ s.sched.idle.get b = .expired
      (row1 → s.schedWant b = (chosen misses).map .conflictClose) ∧
      (¬row1 → hits ≠ [] → s.schedWant b = (chosen hits).map .access) ∧
      (¬row1 → hits = [] → misses ≠ [] → s.schedWant b = (chosen misses).map .conflictClose) ∧
      (ready = [] → mark → s.schedWant b = some .closeAfter) ∧
      (ready = [] → ¬mark → idle → s.schedWant b = some .idleClose) ∧
      (ready = [] → ¬mark → ¬idle → s.schedWant b = none))

/-- R99 to R101 with R105: the renewal unit's want for a bank, by its debt and state. Out of RUN, HALTING and HALTED it
presents none. -/
def Obligations.RenewalWants : Prop :=
  ∀ (s : State) (b : BankNo),
    let r := s.ren.records.get b
    let st := (s.bank b).state
    let level : Int := s.timing.urgentLevel
    (s.port.mode = .init ∨ s.port.mode = .held ∨ s.port.mode = .waking → s.renWant b = none) ∧
    (r.exempt = true ∨ st = .renewing ∨ st = .held → s.renWant b = none) ∧
    (s.port.mode = .run ∨ s.port.mode = .halting ∨ s.port.mode = .halted → r.exempt = false → 1 ≤ level →
      (level ≤ r.debt → st = .opening ∨ st = .opened ∨ st = .accessing → s.renWant b = some .close) ∧
      (level ≤ r.debt → st = .closing ∨ st = .closed → s.renWant b = some .renew) ∧
      (1 ≤ r.debt → r.debt < level → st ≠ .renewing → st ≠ .held → s.renWant b = some .renew) ∧
      (-3 ≤ r.debt → r.debt ≤ 0 → st = .closed → (∀ e ∈ s.sched.list, e.bank ≠ b) → s.renWant b = some .renew) ∧
      (-3 ≤ r.debt → r.debt ≤ 0 → st ≠ .closed ∨ (∃ e ∈ s.sched.list, e.bank = b) → s.renWant b = none) ∧
      (r.debt < -3 → s.renWant b = none))

/-- What the mode changes and the issue gate leave alone, whatever they issue. The pending list keeps its entries, and each
keeps what it carries from its admission on (R58, R69). With no commit and no drain in progress the management unit, the
renewal unit and the stored chunks are untouched as well. -/
def Obligations.SettleFrame : Prop :=
  ∀ s : State,
    s.settle.pending = s.pending ∧ s.settle.now = s.now ∧ s.settle.draws = s.draws ∧ s.settle.rst = s.rst ∧
    s.settle.laneSignal = s.laneSignal ∧ s.settle.txLane = s.txLane ∧ s.settle.link = s.link ∧ s.settle.adm = s.adm ∧
    s.settle.resp.orders = s.resp.orders ∧ s.settle.sched.list.map Entry.snapshot = s.sched.list.map Entry.snapshot ∧
    s.settle.sched.cancelHold = s.sched.cancelHold ∧ s.settle.mgmt.queue = s.mgmt.queue ∧
    s.settle.mgmt.notices = s.mgmt.notices ∧ s.settle.mgmt.staged = s.mgmt.staged ∧
    (s.mgmt.commit.state = .none → s.mgmt.part.stage = none → s.port.holdReq = false →
      s.settle.mgmt = s.mgmt ∧ s.settle.ren = s.ren ∧ s.settle.array = s.array ∧ s.settle.port.tExit = s.port.tExit)

/-! ### admission (chapters 2 and 3) -/

/-- READ, WRITE and MASKED_WRITE (R50, R52, R62): a request whose first failing check gives a reason changes nothing but
its receive slot and the reply hold, which takes the REFUSE. Its requester and tag are those of the frame; where a short
body carries none they are free (log 14). Every request that may be taken is either refused or admitted. -/
def Obligations.RequestRefused : Prop :=
  ∀ (s : State) (k : ReqKind) (body : List Byte), s.Arrives k body →
    ((∃ reason, s.Refuses k body reason) ∨ ∃ q w, s.Admits k body q w) ∧
    ∀ reason, s.Refuses k body reason →
      ∃ r tag : Byte, (∀ x, body[0]? = some x → r = x) ∧ (∀ x, body[1]? = some x → tag = x) ∧
        exec k.command s =
          .next { s with
            draws := if body.length < 2 then s.draws + 1 else s.draws
            link := { s.link with rx := s.link.rx.eraseP RxFrame.isData, updateOwed := true }
            adm := { s.adm with replyHold := some (.refuse r tag k.code reason) } }

/-- READ, WRITE and MASKED_WRITE (R45, R46, R47, R56, R58, R59, R60, R61): a request that passes the nine checks becomes
the youngest WAITING entry. A tag-holding one takes its tag and an OWED place; a detached write is answered DONE OK
instead; a write takes the lowest-numbered free write slot. -/
def Obligations.RequestAdmitted : Prop :=
  ∀ (s : State) (k : ReqKind) (body : List Byte) (q : DataReq) (w : Window), s.Arrives k body → s.Admits k body q w →
    let entry := s.mgmt.active.requesters.get q.requester
    let start := if k = .read then q.address - q.address % (q.size.chunks * 32) else q.address
    let p := (w.physicalBase * 1048576 + (start - w.logicalBase * 1048576)) / 32
    let mode := s.timing.mapMode
    let held : Bool := decide (k = .read ∨ entry.ackPoint = .commit)
    let slot : Option (Fin 32) := if k = .read then none else s.adm.slots.findIdx? Option.isNone
    let e : Entry :=
      { id := s.sched.nextId, requester := q.requester, tag := q.tag, tagHeld := held, kind := k, bank := bankOf mode p
        page := pageOf mode p, first := chunkOf p, size := q.size
        lead := if k = .read then some ((q.address - start) / 32) else none
        returnOrder := entry.returnOrder, priority := q.priority, policy := w.policy, writeSlot := slot, respSlot := none
        blockedBy := none, bypass := 0, overdue := false, state := .waiting }
    let data : WriteSlot :=
      { data := q.data, enables := q.enables ++ List.replicate (256 - q.enables.length) false, owner := e.id }
    exec k.command s =
      .next ({ s with
        link := { s.link with rx := s.link.rx.eraseP RxFrame.isData, updateOwed := true }
        adm :=
          { tags := if held then s.adm.tags.set q.requester (s.adm.tags.get q.requester ++ [q.tag]) else s.adm.tags
            slots := match slot with | some i => s.adm.slots.set i (some data) | none => s.adm.slots
            replyHold := if held then none else some (.done q.requester q.tag .ok) }
        sched :=
          { s.sched with
            list := s.sched.list ++ [{ e with blockedBy := youngestConflict s.sched.list e }]
            idle := s.sched.idle.set e.bank .stopped
            nextId := s.sched.nextId + 1 }
        resp :=
          if held then
            { s.resp with
              orders := s.resp.orders.set q.requester
                (s.resp.orders.get q.requester ++ [{ tag := q.tag, mode := entry.order, state := .owed }]) }
          else s.resp } : State).settle

/-- R51, R191, R193: which bodies are well-formed data requests, and the fields of one that is. The address is the number
that its five bytes carry, most significant byte first. -/
def Obligations.RequestForm : Prop :=
  (∀ bytes : List Byte, natOfBytes bytes = bytes.foldl (fun n x => n * 256 + x.toNat) 0) ∧
  (∀ (v : List Byte) (i len : Nat), fieldAt v i len = natOfBytes ((v.drop i).take len)) ∧
  ([BlockSize.c1, .c2, .c4, .c8].map BlockSize.code = [0, 1, 2, 3]) ∧
  ∀ (k : ReqKind) (body : List Byte),
    (∀ q, parseReq k body = some q →
      body[0]? = some (byteOf q.requester.val) ∧ body[1]? = some q.tag ∧ q.address = fieldAt body 2 5 ∧
      body[7]? = some q.size.code ∧ body[8]? = some (if q.priority = .expedited then 1 else 0) ∧ q.address % 32 = 0 ∧
      (k ≠ .read → q.address % (q.size.chunks * 32) = 0) ∧
      (k = .read → body.length = 9 ∧ q.data = []) ∧
      (k ≠ .read → q.data = (body.drop 9).take (q.size.chunks * 32) ∧ q.data.length = q.size.chunks * 32 ∧
        q.enables.length = q.size.chunks * 32) ∧
      (k = .write → body.length = 9 + q.size.chunks * 32 ∧ ∀ n < q.size.chunks * 32, q.enables[n]? = some true) ∧
      (k = .masked → body.length = 9 + q.size.chunks * 36 ∧
        ∀ n < q.size.chunks * 32, ∃ b, body[9 + q.size.chunks * 32 + n / 8]? = some b ∧
          q.enables[n]? = some (b.getLsbD (n % 8)))) ∧
    (∀ (r : ReqNo) (tag : Byte) (sz : BlockSize) (pr : Priority) (address : List Byte) (tail : List Byte),
      body = [byteOf r.val, tag] ++ address ++ [sz.code, if pr = .expedited then 1 else 0] ++ tail →
      address.length = 5 → natOfBytes address % 32 = 0 →
      (k ≠ .read → natOfBytes address % (sz.chunks * 32) = 0) →
      tail.length = (match k with | .read => 0 | .write => sz.chunks * 32 | .masked => sz.chunks * 36) →
      ∃ q, parseReq k body = some q ∧ q.requester = r ∧ q.tag = tag ∧ q.size = sz ∧ q.priority = pr ∧
        q.address = natOfBytes address)

/-! ### pending list (chapter 4) -/

/-- CANCEL (R87, R88, R90, R120), the rows of R87 in order. A cancel is taken in every part state and consults no right. An
echoed byte that a body of fewer than 2 bytes does not carry is free, which is the model's (log 14). -/
def Obligations.CancelOutcomes : Prop :=
  ∀ (s : State) (f : RxFrame), s.rst = none → s.sched.cancelHold = none → s.link.rx.find? RxFrame.isCancel = some f →
    let link := { s.link with rx := s.link.rx.eraseP RxFrame.isCancel, updateOwed := true }
    let answered : Byte → Byte → CancelResult → State := fun r tag result =>
      { s with link := link, sched := { s.sched with cancelHold := some (.cancelReply r tag result) } }
    (f.body.length < 2 → ∃ r tag : Byte, (∀ x, f.body[0]? = some x → r = x) ∧
      exec .cancel s = .next { answered r tag .unknown with draws := s.draws + 1 }) ∧
    (∀ r tag, 2 < f.body.length → f.body[0]? = some r → f.body[1]? = some tag →
      exec .cancel s = .next (answered r tag .unknown)) ∧
    (∀ r tag, f.body = [r, tag] → 16 ≤ r.toNat → exec .cancel s = .next (answered r tag .unknown)) ∧
    ∀ (r : ReqNo) (tag : Byte), f.body = [byteOf r.val, tag] →
      (∀ e, s.sched.list.find? (fun x => x.requester = r && x.tag = tag && x.tagHeld) = some e → e.state = .waiting →
        exec .cancel s =
          .next ({ s with
            link := link
            adm :=
              { s.adm with
                slots := match e.writeSlot with | some i => s.adm.slots.set i none | none => s.adm.slots }
            sched := { s.sched with list := relink (s.sched.list.filter fun x => x.id ≠ e.id) }
            resp :=
              { s.resp with
                orders := s.resp.orders.set r ((s.resp.orders.get r).map fun p =>
                  if p.tag = tag ∧ p.state = .owed then { p with state := .void } else p) } } : State).settle) ∧
      (∀ e, s.sched.list.find? (fun x => x.requester = r && x.tag = tag && x.tagHeld) = some e → e.state = .issued →
        exec .cancel s = .next (answered (byteOf r.val) tag .tooLate)) ∧
      ((∀ e ∈ s.sched.list, ¬(e.requester = r ∧ e.tag = tag ∧ e.tagHeld = true)) → tag ∈ s.adm.tags.get r →
        exec .cancel s = .next (answered (byteOf r.val) tag .tooLate)) ∧
      ((∀ e ∈ s.sched.list, ¬(e.requester = r ∧ e.tag = tag ∧ e.tagHeld = true)) → tag ∉ s.adm.tags.get r →
        exec .cancel s = .next (answered (byteOf r.val) tag .unknown))

/-- R60, R71, R72: which entry blocks a new one; that an entry that is ISSUED or eligible has no older conflicting entry in
the list; and that the list is linked the same way after any one entry has left it. -/
def Obligations.HazardLinks : Prop :=
  (∀ a b : Entry, a.conflicts b = true ↔ a.bank = b.bank ∧ a.page = b.page ∧
    (∃ n, a.first ≤ n ∧ n < a.first + a.size.chunks ∧ b.first ≤ n ∧ n < b.first + b.size.chunks) ∧
    (a.kind ≠ .read ∨ b.kind ≠ .read)) ∧
  (∀ (older : List Entry) (e : Entry) (x : Nat), youngestConflict older e = some x →
    ∃ before o after, older = before ++ o :: after ∧ o.id = x ∧ o.conflicts e = true ∧
      ∀ y ∈ after, y.conflicts e = false) ∧
  (∀ (older : List Entry) (e : Entry), youngestConflict older e = none ↔ ∀ y ∈ older, y.conflicts e = false) ∧
  ∀ q : Sched, q.Ok →
    (∀ older e younger, q.list = older ++ e :: younger → e.state = .issued ∨ e.eligible = true →
      ∀ o ∈ older, o.conflicts e = false) ∧
    ∀ x ∈ q.list,
      let after := relink (q.list.filter fun e => e.id ≠ x.id)
      linkedFrom [] after = true ∧
        after.map (fun e => { e with blockedBy := none }) =
          (q.list.filter fun e => e.id ≠ x.id).map (fun e => { e with blockedBy := none })

/-- R85: what a head read is, what F and H count, and that each requester has at most one head read, so that there are at most 16. A head read may reserve a slot while one is
free, and another read only while more are free than there are head reads. -/
def Obligations.HeadReserve : Prop :=
  ∀ s : State, s.sched.Ok →
    (∀ a ∈ s.sched.list, ∀ b ∈ s.sched.list, s.headRead a = true → s.headRead b = true → a.requester = b.requester →
      a = b) ∧
    (∀ older e younger, s.sched.list = older ++ e :: younger →
      (s.headRead e = true ↔ e.kind = .read ∧ e.tagHeld = true ∧ e.respSlot = none ∧
        (∃ p ∈ s.resp.orders.get e.requester, p.mode = .ordered) ∧
        ∀ o ∈ older, ¬(o.requester = e.requester ∧ o.kind = .read ∧ o.tagHeld = true ∧ o.respSlot = none))) ∧
    s.headReads = (s.sched.list.filter fun e => s.headRead e).length ∧
    s.freeSlots = ((List.finRange 32).filter fun i => s.resp.slots.get i = .free).length ∧
    s.headReads ≤ 16 ∧
    ∀ e, s.mayReserve e = true ↔ s.headRead e = true ∧ 1 ≤ s.freeSlots ∨ s.headReads < s.freeSlots

/-! ### response unit (chapter 6) -/

/-- R121: a requester's candidate is the oldest place that is READY and passes the release test: ORDERED only as the oldest
place of all, UNORDERED at once. R115, R116: the order of a DATA frame's chunks, its status, and its bad-chunk list. -/
def Obligations.CandidateAndDataFrame : Prop :=
  (∀ (s : State) (r : ReqNo), s.candidate r = candidateIn (s.resp.orders.get r)) ∧
  (∀ (l : List Place) (p : Place),
     let passes : List Place → Place → Prop := fun older x => x.state ≠ .owed ∧ (x.mode = .unordered ∨ older = [])
     (candidateIn l = some p ↔ ∃ older younger, l = older ++ p :: younger ∧ passes older p ∧
       ∀ before x after, older = before ++ x :: after → ¬passes before x) ∧
     (candidateIn l = none ↔ ∀ older x younger, l = older ++ x :: younger → ¬passes older x)) ∧
  (∀ (o : SlotOwner) (results : List CheckResult) (lapse : Bool), results.length = o.size.chunks →
     o.lead < o.size.chunks →
     let order := frameOrder o.order o.lead o.size
     let bad : CheckResult → Prop := fun r => r = .uncorrectable ∨ r = .poisoned
     let status := dataStatus results lapse
     order.Perm (List.range o.size.chunks) ∧
     (∀ n < o.size.chunks, order[n]? =
       some (match o.order with | .linear => n | .leadFirst => if o.lead + n < o.size.chunks then o.lead + n
         else o.lead + n - o.size.chunks)) ∧
     (status = .poisoned ↔ ∃ r ∈ results, bad r) ∧ (status = .suspect ↔ lapse = true ∧ ∀ r ∈ results, ¬bad r) ∧
     (status = .ok ↔ lapse = false ∧ ∀ r ∈ results, ¬bad r) ∧
     (∀ n, n ∈ badList o results ↔ ∃ k r, order[n]? = some k ∧ results[k]? = some r ∧ bad r) ∧
     (badList o results).Pairwise (· < ·) ∧ (badList o results = [] ↔ status ≠ .poisoned))

/-! ### transmit arbiter (section 7.6) -/

/-- TRANSMIT_SELECT, ranks 1 and 2 (R134, R141, R148): a TRAIN answer, an offer, a REPLAY, an ACK, then a resend. In DOWN,
and out of UP with no TRAIN waiting, nothing is sent. How many offers wait, and that an offer's fields are those of the
state at its sending, is the model's reading (log 16). -/
def Obligations.ControlFramesAndResends : Prop :=
  ∀ s : State, s.Transmits →
    let l := s.link
    (l.state = .down → exec .transmitSelect s = .next s) ∧
    (l.state ≠ .up → l.answers = [] → l.offers = 0 → exec .transmitSelect s = .next s) ∧
    (∀ a rest, l.state ≠ .down → l.answers = a :: rest →
      exec .transmitSelect s =
        .next { s with
          txLane := s.laneFrame kindTrain 0 [1, a.session, if a.mode = .resume then 1 else 0, a.expect]
          link := { l with answers := rest, updateOwed := false } }) ∧
    (l.state ≠ .down → l.answers = [] → 0 < l.offers →
      exec .transmitSelect s =
        .next { s with
          txLane := s.laneFrame kindTrain 0 (if l.live then [0, l.session, 1, l.expect] else [0, 0, 0, 0])
          link := { l with offers := l.offers - 1, updateOwed := false } }) ∧
    (l.state = .up → l.answers = [] → l.offers = 0 →
      (∀ n rest, l.replays = n :: rest →
        exec .transmitSelect s =
          .next { s with
            txLane := s.laneFrame kindReplay 0 [n]
            link := { l with replays := rest, updateOwed := false } }) ∧
      (l.replays = [] → l.updateOwed = true →
        exec .transmitSelect s =
          .next { s with txLane := s.laneFrame kindAck 0 [], link := { l with updateOwed := false } }) ∧
      (∀ n f, l.replays = [] → l.updateOwed = false → l.resend = some n →
        l.ring[(n - (l.nextSeq - byteOf l.ring.length)).toNat]? = some f →
        exec .transmitSelect s =
          .next { s with
            txLane := s.laneFrame f.kind n f.body
            link :=
              { l with
                updateOwed := false
                resend := if (n - (l.nextSeq - byteOf l.ring.length)).toNat + 1 < l.ring.length then some (n + 1)
                  else none } }))

/-- TRANSMIT_SELECT, ranks 3 and 4 (R62, R90, R143, R144, R148, R155, R189): a MANAGE-REPLY, the oldest formed first; a
NOTICE; then the hold that the reply turn names, or the only one. With the send limit spent nothing new is sent. -/
def Obligations.NewFramesByRank : Prop :=
  (∀ s : State, s.Transmits → s.link.state = .up → s.link.answers = [] → s.link.offers = 0 → s.link.replays = [] →
    s.link.updateOwed = false → s.link.resend = none → min 32 s.link.sendLimit.toNat ≤ s.link.ring.length →
    exec .transmitSelect s = .next s) ∧
  ∀ s : State, s.SendsNew →
    (∀ b, s.mgmt.busyHold = some b → b.ahead = 0 →
      exec .transmitSelect s = .next (({ s with mgmt := { s.mgmt with busyHold := none } } : State).sentNew b.frame)) ∧
    (∀ b f rest, s.mgmt.busyHold = some b → 0 < b.ahead → s.mgmt.replies = f :: rest →
      exec .transmitSelect s =
        .next (({ s with mgmt :=
          { s.mgmt with replies := rest, busyHold := some { b with ahead := b.ahead - 1 } } } : State).sentNew f)) ∧
    (∀ f rest, s.mgmt.busyHold = none → s.mgmt.replies = f :: rest →
      exec .transmitSelect s = .next (({ s with mgmt := { s.mgmt with replies := rest } } : State).sentNew f)) ∧
    (∀ n rest, s.mgmt.busyHold = none → s.mgmt.replies = [] → s.mgmt.notices = n :: rest → s.link.live = true →
      exec .transmitSelect s =
        .next (({ s with mgmt := { s.mgmt with notices := rest } } : State).sentNew
          (.notice s.mgmt.notice.destination n))) ∧
    (∀ f, s.NoRank3 → s.adm.replyHold = some f → s.link.replyTurn = .refuse ∨ s.sched.cancelHold = none →
      exec .transmitSelect s =
        .next (({ s with
          adm := { s.adm with replyHold := none }
          link := { s.link with replyTurn := .cancelReply } } : State).sentNew f)) ∧
    (∀ f, s.NoRank3 → s.sched.cancelHold = some f → s.link.replyTurn = .cancelReply ∨ s.adm.replyHold = none →
      exec .transmitSelect s =
        .next (({ s with
          sched := { s.sched with cancelHold := none }
          link := { s.link with replyTurn := .refuse } } : State).sentNew f)) ∧
    (s.NoRank3 → s.adm.replyHold = none → s.sched.cancelHold = none → (∀ r, s.candidate r = none) →
      exec .transmitSelect s = .next s)

/-- TRANSMIT_SELECT, rank 5 (R116, R119, R120, R122, R148): the first requester from the round-robin pointer upward that
has a candidate is served; the place leaves, the tag and a DATA frame's slot are released. -/
def Obligations.FinalResponseReleased : Prop :=
  ∀ (s : State) (n : Fin 16) (p : Place), s.SendsNew → s.NoRank3 → s.adm.replyHold = none → s.sched.cancelHold = none →
    let r : ReqNo := s.link.rr + n
    (∀ m < n, s.candidate (s.link.rr + m) = none) → s.candidate r = some p →
    let released (slots : Table 32 RespSlot) (f : OutFrame) : State :=
      (({ s with
        link := { s.link with rr := r + 1 }
        adm := { s.adm with tags := s.adm.tags.set r ((s.adm.tags.get r).erase p.tag) }
        resp :=
          { slots := slots
            orders := s.resp.orders.set r ((s.resp.orders.get r).eraseP fun x => x.tag = p.tag) } } : State).sentNew f).settle
    (∀ st, p.state = .done st → exec .transmitSelect s = .next (released s.resp.slots (.done r p.tag st))) ∧
    (p.state = .void → exec .transmitSelect s = .next (released s.resp.slots (.void r p.tag))) ∧
    (∀ st i bad o data results lapse, p.state = .data st i bad → s.resp.slots.get i = .filled o data results lapse →
      exec .transmitSelect s =
        .next (released (s.resp.slots.set i .free)
          (.data o.requester o.tag st o.size o.order o.lead bad
            ((frameOrder o.order o.lead o.size).flatMap fun k => (data.drop (32 * k)).take 32))))

/-! ### host link (chapter 7) -/

/-- INBOUND_SEQUENCED_FRAME (R138, R139, R140, R147): the rows of R139, after the frame's ack and credit have been taken as
HOST_ACK takes them. A frame of unknown kind is accepted and discarded at its binding, in the same event (log 13).
BAD_CHECK_FRAME (R138, R140, R192): counted in every link state; in UP it asks for a REPLAY, once per replay mark. First
the kind codes of section 11.1 (R191): the control frames, the kinds that have a destination, and which of the three takes
each (R147); and the ack window (R142). -/
def Obligations.InboundFrameRows : Prop :=
  (kindAck = 0x70 ∧ kindReplay = 0x71 ∧ kindTrain = 0x72 ∧
   (∀ k : Byte, isControl k = true ↔ k = 0x70 ∨ k = 0x71 ∨ k = 0x72) ∧
   (∀ k : Byte, hasDestination k = true ↔ k = 0x10 ∨ k = 0x11 ∨ k = 0x12 ∨ k = 0x18 ∨ k = 0x20) ∧
   (∀ x : ReqKind, x.code = match x with | .read => 0x10 | .write => 0x11 | .masked => 0x12) ∧
   (∀ (k : Byte) (x : ReqKind), dataKind k = some x ↔ k = x.code) ∧
   (∀ f : RxFrame, (f.isData = true ↔ f.kind = 0x10 ∨ f.kind = 0x11 ∨ f.kind = 0x12) ∧
     (f.isCancel = true ↔ f.kind = 0x18) ∧ (f.isManage = true ↔ f.kind = 0x20)) ∧
   ∀ (l : Link) (a : Byte), l.inWindow a = true ↔
     (a - (l.nextSeq - byteOf l.ring.length - 1)).toNat ≤ l.ring.length) ∧
  (∀ (s : State) (bytes : List Byte) (f : Frame), s.rst = none → parseFrame bytes = some f → isControl f.kind = false →
     (s.link.state ≠ .up → exec (.inboundSequencedFrame bytes) s = .next s) ∧
     (s.link.state = .up → s.link.inWindow f.ack = false →
       exec (.inboundSequencedFrame bytes) s = .next (s.enterRecovery .ackRange)) ∧
     (s.link.state = .up → s.link.inWindow f.ack = true →
       let u := s.takeAckCredit f
       let ask : State → State := fun v =>
         if v.link.replayMark = none then
           { v with link :=
             { v.link with
               replayMark := some v.link.expect
               replays := v.link.replays ++ [v.link.expect]
               markTimer := some (v.now + v.mgmt.active.link.ackTimeout * 1000) } }
         else v
       let accepted : List RxFrame → State := fun more =>
         { u with link :=
           { u.link with
             expect := u.link.expect + 1
             replayMark := none
             markTimer := none
             updateOwed := true
             rx := u.link.rx ++ more } }
       let d := (f.seq - s.link.expect).toNat
       (d = 0 → s.link.rx.length < 8 → hasDestination f.kind = true →
         exec (.inboundSequencedFrame bytes) s = .next (accepted [{ kind := f.kind, body := f.body }])) ∧
       (d = 0 → s.link.rx.length < 8 → hasDestination f.kind = false →
         exec (.inboundSequencedFrame bytes) s = .next ((accepted []).report (.linkProtocol .unknownKind))) ∧
       (d = 0 → 8 ≤ s.link.rx.length →
         exec (.inboundSequencedFrame bytes) s = .next (ask (u.report (.linkProtocol .noSlot)))) ∧
       (1 ≤ d → d ≤ 127 → exec (.inboundSequencedFrame bytes) s = .next (ask u)) ∧
       (128 ≤ d → exec (.inboundSequencedFrame bytes) s =
         .next { u with link := { u.link with updateOwed := true } }))) ∧
  (∀ (s : State) (bytes : List Byte), s.rst = none → parseFrame bytes = none →
     let counted : State :=
       { s with mgmt := { s.mgmt with counters := s.mgmt.counters.set 8 (min 65535 (s.mgmt.counters.get 8 + 1)) } }
     (s.link.state ≠ .up ∨ s.link.replayMark ≠ none → exec (.badCheckFrame bytes) s = .next counted) ∧
     (s.link.state = .up → s.link.replayMark = none →
       exec (.badCheckFrame bytes) s =
         .next { counted with link :=
           { s.link with
             replayMark := some s.link.expect
             replays := s.link.replays ++ [s.link.expect]
             markTimer := some (s.now + s.mgmt.active.link.ackTimeout * 1000) } }))

/-- HOST_ACK (R138, R142, R144): an ack in the window removes the frames it acknowledges, and one that is progress
restarts or stops the ack timer and moves the resend point off a removed frame; the credit becomes the send limit. An ack
outside the window takes the link to RECOVERY. Out of UP the frame is discarded. -/
def Obligations.AckTrimsRing : Prop :=
  ∀ (s : State) (bytes : List Byte) (f : Frame), s.rst = none → parseFrame bytes = some f → f.kind = kindAck →
    let l := s.link
    let oldest := l.nextSeq - byteOf l.ring.length
    let k := (f.ack - (oldest - 1)).toNat
    let left := l.ring.length - k
    (l.state ≠ .up → exec (.hostAck bytes) s = .next s) ∧
    (l.state = .up → k ≤ l.ring.length → exec (.hostAck bytes) s = .next (s.takeAckCredit f)) ∧
    (l.state = .up → l.ring.length < k → exec (.hostAck bytes) s = .next (s.enterRecovery .ackRange)) ∧
    (k = 0 → s.takeAckCredit f = { s with link := { l with sendLimit := f.credit } }) ∧
    (0 < k → k ≤ l.ring.length →
      s.takeAckCredit f =
        { s with link :=
          { l with
            ring := l.ring.drop k
            expiries := 0
            ackTimer := if 0 < left then some (s.now + s.mgmt.active.link.ackTimeout * 1000) else none
            resend := l.resend.bind fun n =>
              if k ≤ (n - oldest).toNat then some n else if 0 < left then some (oldest + byteOf k) else none
            sendLimit := f.credit } })

/-- HOST_REPLAY (R138, R146): a sequence in the ring becomes the resend point and is counted; any other takes the link to
RECOVERY. Neither touches the ack timer or the expiry count beyond what the frame's ack does. A REPLAY with another body
length has its ack and credit taken in UP and is then discarded (R193). -/
def Obligations.HostReplayMovesResendPoint : Prop :=
  ∀ (s : State) (bytes : List Byte) (f : Frame), s.rst = none → parseFrame bytes = some f → f.kind = kindReplay →
    (s.link.state ≠ .up → exec (.hostReplay bytes) s = .next s) ∧
    (s.link.state = .up → s.link.inWindow f.ack = false →
      exec (.hostReplay bytes) s = .next (s.enterRecovery .ackRange)) ∧
    (s.link.state = .up → s.link.inWindow f.ack = true →
      let u := s.takeAckCredit f
      (∀ n, f.body = [n] →
        let inRing : Prop := (n - (u.link.nextSeq - byteOf u.link.ring.length)).toNat < u.link.ring.length
        (inRing → exec (.hostReplay bytes) s =
          .next { u with
            link := { u.link with resend := some n }
            mgmt := { u.mgmt with counters := u.mgmt.counters.set 9 (min 65535 (u.mgmt.counters.get 9 + 1)) } }) ∧
        (¬inRing → exec (.hostReplay bytes) s = .next (u.enterRecovery .replayRange))) ∧
      (f.body.length ≠ 1 → exec (.hostReplay bytes) s = .next u))

/-- ACK_TIMER_EXPIRY (R145): the first three expiries without progress resend the whole ring, and the fourth takes the link
to RECOVERY. That the clock moves to the expiry's instant, or stays where it is later, and the timer restarts from it, is
the model's (log 2). -/
def Obligations.AckTimerExpires : Prop :=
  ∀ (s : State) (d : Nat), s.rst = none → s.link.state = .up → s.link.ackTimer = some d →
    let now := max s.now d
    (s.link.expiries < 3 → exec .ackTimerExpiry s =
      .next { s with
        now := now
        link :=
          { s.link with
            expiries := s.link.expiries + 1
            resend := some (s.link.nextSeq - byteOf s.link.ring.length)
            ackTimer := some (now + s.mgmt.active.link.ackTimeout * 1000) }
        mgmt := { s.mgmt with counters := s.mgmt.counters.set 9 (min 65535 (s.mgmt.counters.get 9 + 1)) } }) ∧
    (3 ≤ s.link.expiries → exec .ackTimerExpiry s =
      .next (({ s with now := now, link := { s.link with expiries := s.link.expiries + 1 } } : State).enterRecovery
        .ackTimeout))

/-- R133, R149: entry into RECOVERY from UP. The session, E, N, the ring, the receive buffer and the send limit are kept; a
hold time of 0 loses the session at once; a RESET-PART that waits is taken (R130), of the start kind R172 gives, and keeps
the array after a warm start alone (R24). The
model's own: that LINK-RECOVERY is reported before SESSION-LOST (log 21), the flag of a reset that waits (log 19), and,
with a hold time of 0 and a reset that waits, that the session is lost first and the reset follows (log 29). -/
def Obligations.RecoveryEntry : Prop :=
  ∀ (s : State) (cause : RecoveryCause),
    let hold := s.mgmt.active.link.holdTime * 1000
    let u : State :=
      { s.report (.linkRecovery cause) with
        link :=
          { s.link with
            state := .recovery
            ackTimer := none
            markTimer := none
            resend := none
            replayMark := none
            replays := []
            updateOwed := false
            holdTimer := some (s.now + hold)
            offers := s.link.offers + 1
            offerTimer := some (s.now + 100000)
            stateTimer := some (s.now + 2000000) } }
    (s.mgmt.resetTaken = false → hold ≠ 0 → s.enterRecovery cause = u) ∧
    (s.mgmt.resetTaken = false → hold = 0 → s.link.live = true →
      s.enterRecovery cause = (({ u with link := { u.link with holdTimer := none } } : State).loseSession).settle) ∧
    (s.mgmt.resetTaken = true → hold ≠ 0 →
      ∃ t kind, s.enterRecovery cause = t ∧ t.rst = none ∧
        t.Started kind (if kind = .warm then s.array else []) s.now ∧
        (kind = .warm ↔ s.mgmt.part.state = .retained ∧ s.port.mode = .held)) ∧
    (s.mgmt.resetTaken = true → hold = 0 → s.link.live = true →
      let v := (({ u with link := { u.link with holdTimer := none } } : State).loseSession).settle
      ∃ t kind, s.enterRecovery cause = t ∧ t.rst = none ∧
        t.Started kind (if kind = .warm then v.array else []) s.now ∧
        (kind = .warm ↔ v.mgmt.part.state = .retained ∧ v.port.mode = .held))

/-- HOST_TRAIN (R131, R134 to R137, R144): a TRAIN whose mode is RESUME (01h; any other value is NEW, R193), that names the
live session and whose ack lies in the ack window resumes it out of UP; in UP it is answered again and neither its ack nor
its credit is taken. Any other opens the next session, and a live one is lost first; a RESET-PART that waits in UP still
waits then, which is the model's choice (log 30). A TRAIN with another body length than 4 is discarded (R193), and in DOWN
it takes the link to TRAINING all the same, which is the model's choice (log 17). -/
def Obligations.TrainResumesOrOpens : Prop :=
  (∀ (s : State) (bytes : List Byte) (f : Frame) (answer session mode next : Byte), s.rst = none →
     parseFrame bytes = some f → f.kind = kindTrain → f.body = [answer, session, mode, next] →
     let l := s.link
     let oldest := l.nextSeq - byteOf l.ring.length
     let k := (f.ack - (oldest - 1)).toNat
     let left := l.ring.drop k
     let names : Prop := mode = 1 ∧ l.live = true ∧ session = l.session
     let number : Byte := if l.session = 255 then 1 else l.session + 1
     let opened : Link → Link := fun v =>
       { v with
         state := .up, session := number, live := true, expect := 0, nextSeq := 0, rx := [], ring := [], resend := none
         sendLimit := f.credit, expiries := 0, replayMark := none, ackTimer := none, markTimer := none, holdTimer := none
         offerTimer := none, stateTimer := none, offers := 0
         answers := v.answers ++ [{ mode := .new, session := number, expect := 0 }] }
     (l.state ≠ .up → names → k ≤ l.ring.length →
       exec (.hostTrain bytes) s =
         .next { s with link :=
           { l with
             state := .up, ring := left, expiries := 0, sendLimit := f.credit
             resend := if left = [] then none else some (oldest + byteOf k)
             ackTimer := if left = [] then none else some (s.now + s.mgmt.active.link.ackTimeout * 1000)
             holdTimer := none, offerTimer := none, stateTimer := none, offers := 0
             answers := l.answers ++ [{ mode := .resume, session := l.session, expect := l.expect }] } }) ∧
     (l.state = .up → names →
       exec (.hostTrain bytes) s =
         .next { s with link :=
           { l with answers := l.answers ++ [{ mode := .resume, session := l.session, expect := l.expect }] } }) ∧
     (¬names ∨ l.state ≠ .up ∧ l.ring.length < k → l.live = false →
       exec (.hostTrain bytes) s = .next { s with link := opened l }) ∧
     (¬names ∨ l.state ≠ .up ∧ l.ring.length < k → l.live = true →
       let v : State :=
         if l.state = .down then
           { s with link :=
             { l with
               state := .training
               offers := l.offers + 1
               offerTimer := some (s.now + 100000)
               stateTimer := some (s.now + 8000000) } }
         else s
       exec (.hostTrain bytes) s = .next { v.loseSession.settle with link := opened v.loseSession.link })) ∧
  ∀ (s : State) (bytes : List Byte) (f : Frame), s.rst = none → parseFrame bytes = some f → f.kind = kindTrain →
    f.body.length ≠ 4 →
    (s.link.state ≠ .down → exec (.hostTrain bytes) s = .next s) ∧
    (s.link.state = .down →
      exec (.hostTrain bytes) s =
        .next { s with link :=
          { s.link with
            state := .training
            offers := s.link.offers + 1
            offerTimer := some (s.now + 100000)
            stateTimer := some (s.now + 8000000) } })

/-- HOLD_TIMER_EXPIRY and session loss (R57, R64, R91, R125, R149 to R151, R167, R169, R181, R189): every block drops the
work of the session in one event. ISSUED entries, stored chunks, renewal records, tables, counters, queued notices, the
session number, E, N and the send limit stay, and the loss is reported. The model's own: the clock at the expiry (log 2),
and that TRAIN answers and REPLAYs not yet sent go with the session (log 16). -/
def Obligations.SessionLoss : Prop :=
  ∀ s : State,
    (∀ d, s.rst = none → s.link.holdTimer = some d → s.link.live = true →
      exec .holdTimerExpiry s =
        .next (({ s with now := max s.now d, link := { s.link with holdTimer := none } } : State).loseSession).settle) ∧
    (∀ d, s.rst = none → s.link.holdTimer = some d → s.link.live = false →
      exec .holdTimerExpiry s = .next { s with now := max s.now d, link := { s.link with holdTimer := none } }) ∧
    let t := s.loseSession
    t.pending = s.pending ∧ t.now = s.now ∧ t.rst = s.rst ∧ t.port = s.port ∧ t.ren = s.ren ∧ t.array = s.array ∧
    t.txLane = s.txLane ∧ t.laneSignal = s.laneSignal ∧ t.draws = s.draws ∧
    t.link =
      { s.link with
        ring := [], rx := [], resend := none, replayMark := none, replays := [], answers := [], ackTimer := none
        markTimer := none, expiries := 0, updateOwed := false, live := false } ∧
    (∀ r, t.adm.tags.get r = [] ∧ t.resp.orders.get r = []) ∧ t.adm.replyHold = none ∧ t.sched.cancelHold = none ∧
    (∀ i w, s.adm.slots.get i = some w →
      ((∃ e ∈ s.sched.list, e.id = w.owner ∧ e.state = .waiting) → t.adm.slots.get i = none) ∧
      ((∀ e ∈ s.sched.list, e.id = w.owner → e.state = .issued) → t.adm.slots.get i = some w)) ∧
    ((∀ e ∈ s.sched.list, e.state = .issued → e.blockedBy = none) →
      t.sched =
        { s.sched with
          list := (s.sched.list.filter fun e => e.state = .issued).map fun e => { e with tagHeld := false }
          cancelHold := none }) ∧
    (∀ i, t.resp.slots.get i =
      match s.resp.slots.get i with
      | .reserved o _ => .reserved o true
      | .free | .filled .. => .free) ∧
    t.mgmt =
      (State.report
        { s with mgmt :=
          { s.mgmt with
            queue := []
            replies := []
            busyHold := none
            commit :=
              { s.mgmt.commit with
                replyOwed := if s.mgmt.commit.state = .none then s.mgmt.commit.replyOwed else some .dropped }
            part :=
              { s.mgmt.part with
                state := if s.mgmt.part.state = .retained then .retained else .draining
                stage := if s.mgmt.part.state = .retained ∨ s.mgmt.part.state = .draining then s.mgmt.part.stage
                  else some .list
                retainOwed := if s.mgmt.part.state = .retained then s.mgmt.part.retainOwed else none } } }
        (.sessionLost s.link.session)).mgmt

/-- LANE_SIGNAL_PRESENT and SIGNAL_LOSS (R131 to R133): the signal's coming takes DOWN to TRAINING with an offer; its loss
takes UP to RECOVERY and TRAINING to DOWN, and leaves RECOVERY and DOWN. OFFER_TIMER_EXPIRY, TRAINING_TIMEOUT,
RECOVERY_TIMEOUT and REPLAY_MARK_TIMER_EXPIRY (R132, R133, R140): another offer; DOWN, with the session as it stands; the
replay mark cleared. The model's own: SIGNAL_LOSS acts whatever the pin held, and LANE_SIGNAL_PRESENT only where the signal
was absent (log 26), and the expiries' clock (log 2). -/
def Obligations.LinkSignalAndTimers : Prop :=
  (∀ s : State, s.rst = none →
     let present : State := { s with laneSignal := true }
     let lost : State := { s with laneSignal := false }
     (s.laneSignal = false → s.link.state = .down →
       exec .laneSignalPresent s =
         .next { present with link :=
           { s.link with
             state := .training
             offers := s.link.offers + 1
             offerTimer := some (s.now + 100000)
             stateTimer := some (s.now + 8000000) } }) ∧
     (s.laneSignal = true ∨ s.link.state ≠ .down → exec .laneSignalPresent s = .next present) ∧
     (s.link.state = .up → exec .signalLoss s = .next (lost.enterRecovery .signalLoss)) ∧
     (s.link.state = .training →
       exec .signalLoss s =
         .next { lost with link :=
           { s.link with state := .down, offers := 0, offerTimer := none, stateTimer := none } }) ∧
     (s.link.state = .recovery ∨ s.link.state = .down → exec .signalLoss s = .next lost)) ∧
  (∀ (s : State) (d : Nat), s.rst = none →
     let now := max s.now d
     let down : State :=
       { s with now := now, link := { s.link with state := .down, offers := 0, offerTimer := none, stateTimer := none } }
     (s.link.offerTimer = some d →
       exec .offerTimerExpiry s =
         .next { s with
           now := now
           link := { s.link with offers := s.link.offers + 1, offerTimer := some (now + 100000) } }) ∧
     (s.link.state = .training → s.link.stateTimer = some d → exec .trainingTimeout s = .next down) ∧
     (s.link.state = .recovery → s.link.stateTimer = some d → exec .recoveryTimeout s = .next down) ∧
     (s.link.markTimer = some d →
       exec .replayMarkTimerExpiry s =
         .next { s with now := now, link := { s.link with replayMark := none, markTimer := none } }))

/-- R191, R192: a frame of up to 312 body bytes is read back whole from its bytes on the lane, and only a frame's bytes,
from 8 to 320 of them, pass the check. The header, the body and the trailer of a frame, in order, and the frame check of
every string of bytes, bit by bit. R17, R33, R42, R130, R194: what a SET's value spells as a staged object or as
NOTICE-SETTINGS is spelled back by a GET byte for byte, and every object whose fields lie in range has a value that
spells it; the values, byte by byte. Sections 11.1 and 11.3: the kind codes and the bodies of the sequenced frames that the part sends, with the
codes of their fields, the bad-chunk mask, and the fields of each notice kind. -/
def Obligations.LayoutsRoundTrip : Prop :=
  (∀ n, (byteOf n).toNat = n % 256) ∧
  ((∀ f : Frame, f.body.length ≤ 312 → parseFrame f.bytes = some f) ∧
   (∀ (bytes : List Byte) (f : Frame), parseFrame bytes = some f →
     f.bytes = bytes ∧ 8 ≤ bytes.length ∧ bytes.length ≤ 320) ∧
   (∀ f : Frame,
     let head := [f.kind, f.seq, f.ack, f.credit] ++ f.body
     let check := (frameCheck head).toNat
     f.bytes = head ++ [byteOf (check / 16777216), byteOf (check / 65536), byteOf (check / 256), byteOf check]) ∧
   (∃ register : List Bool → BitVec 32, register [] = 0xFFFFFFFF ∧
     (∀ bits bit, register (bits ++ [bit]) =
       if (register bits).msb = bit then register bits <<< 1 else (register bits <<< 1) ^^^ 0x04C11DB7) ∧
     ∀ bytes, frameCheck bytes =
       ~~~register (bytes.flatMap fun x => [7, 6, 5, 4, 3, 2, 1, 0].map fun i => x.getLsbD i))) ∧
  ((∀ v t, parseTiming v = some t → t.bytes = v) ∧ (∀ v w, parseWindow v = some w → w.bytes = v) ∧
   (∀ v r, parseRequester v = some r → r.bytes = v) ∧ (∀ v l, parseLinkSettings v = some l → l.bytes = v) ∧
   (∀ v n, parseNoticeSettings v = some n → n.bytes = v) ∧
   (∀ t : Timing, t.badField = none → parseTiming t.bytes = some t) ∧
   (∀ w : Window, w.sizeExp ≤ 10 → w.logicalBase ≤ 1048575 → w.physicalBase ≤ 1023 → parseWindow w.bytes = some w) ∧
   (∀ r : Requester, r.quota ≤ 64 → 1 ≤ r.ageLimit → r.ageLimit ≤ 255 → parseRequester r.bytes = some r) ∧
   (∀ l : LinkSettings, 1 ≤ l.ackTimeout → l.ackTimeout ≤ 1023 → l.holdTime ≤ 65535 →
     parseLinkSettings l.bytes = some l) ∧
   (∀ n : NoticeSettings, parseNoticeSettings n.bytes = some n) ∧
   (let word : Nat → List Byte := fun n => [byteOf (n / 256), byteOf n]
    let flag : Bool → Byte := fun b => if b then 1 else 0
    (∀ t : Timing, t.bytes =
      word t.tOa ++ word t.tDwell ++ word t.tClose ++ word t.tWrec ++ word t.tRd ++ word t.tWr ++ word t.tRen ++
        word t.tOo ++ word t.tQuad ++ word t.tTurn ++ word t.tExit ++
        [byteOf t.renewalInterval, byteOf t.renewalRate, byteOf t.urgentLevel] ++ word t.idleClose ++
        [flag (t.mapMode = .pageFirst)]) ∧
    (∀ w : Window, w.bytes =
      [flag w.valid, byteOf w.sizeExp, byteOf (w.logicalBase / 65536), byteOf (w.logicalBase / 256),
        byteOf w.logicalBase] ++
        word w.physicalBase ++ word w.readSet.toNat ++ word w.writeSet.toNat ++
        [flag (w.policy = .closeAfter), flag (w.content = .discardable)]) ∧
    (∀ r : Requester, r.bytes =
      [flag r.enabled, flag r.manager, byteOf r.quota, flag (r.order = .unordered), flag (r.ackPoint = .admission),
        flag (r.returnOrder = .leadFirst), byteOf r.ageLimit]) ∧
    (∀ l : LinkSettings, l.bytes = word l.ackTimeout ++ word l.holdTime) ∧
    ∀ n : NoticeSettings, n.bytes = [byteOf n.destination.val, n.enables])) ∧
  ((∀ r tag st sz order lead bad payload,
      let f : OutFrame := .data r tag st sz order lead bad payload
      f.kind = 0x40 ∧
        ∃ mask : Byte, f.body = [byteOf r.val, tag, st.code, sz.code, order.code, byteOf lead, mask] ++ payload ∧
          ∀ p < 8, mask.getLsbD p = decide (p ∈ bad)) ∧
   (∀ r tag st, (OutFrame.done r tag st).kind = 0x41 ∧ (OutFrame.done r tag st).body = [byteOf r.val, tag, st.code]) ∧
   (∀ r tag, (OutFrame.void r tag).kind = 0x42 ∧ (OutFrame.void r tag).body = [byteOf r.val, tag, 3]) ∧
   (∀ r tag kind reason, (OutFrame.refuse r tag kind reason).kind = 0x43 ∧
      (OutFrame.refuse r tag kind reason).body = [r, tag, kind, reason.code]) ∧
   (∀ r tag result, (OutFrame.cancelReply r tag result).kind = 0x44 ∧
      (OutFrame.cancelReply r tag result).body = [r, tag, result.code]) ∧
   (∀ e st ck i v, (OutFrame.manageReply e st ck i v).kind = 0x48 ∧
      (OutFrame.manageReply e st ck i v).body =
        [e.requester, e.mtag, e.op, e.object, e.index, st.code, ck.code, byteOf i, byteOf v.length] ++ v) ∧
   (∀ d n, (OutFrame.notice d n).kind = 0x50 ∧
      ∃ code fields, (OutFrame.notice d n).body = [byteOf d.val, n.number, code, byteOf n.dropped] ++ fields ∧
        (∀ b, n.report = .renewalOverrun b → code = 1 ∧ fields = [byteOf b.val]) ∧
        (∀ b p c r tag, n.report = .uncorrectableData b p c r tag →
          code = 2 ∧ fields = [byteOf b.val, byteOf (p / 256), byteOf p, byteOf c, byteOf r.val, tag]) ∧
        (∀ b p c, n.report = .correctedData b p c →
          code = 3 ∧ fields = [byteOf b.val, byteOf (p / 256), byteOf p, byteOf c]) ∧
        (∀ b p c, n.report = .mergePoison b p c →
          code = 4 ∧ fields = [byteOf b.val, byteOf (p / 256), byteOf p, byteOf c]) ∧
        (∀ cause, n.report = .linkRecovery cause → code = 5 ∧ fields = [cause.code]) ∧
        (∀ cause, n.report = .linkProtocol cause → code = 6 ∧ fields = [cause.code]) ∧
        (∀ session, n.report = .sessionLost session → code = 7 ∧ fields = [session]) ∧
        (∀ kind, n.report = .started kind → code = 8 ∧ fields = [kind.code])) ∧
   [BlockSize.c1, .c2, .c4, .c8].map BlockSize.code = [0, 1, 2, 3] ∧
   [ReturnOrder.linear, .leadFirst].map ReturnOrder.code = [0, 1] ∧
   [DataStatus.ok, .suspect, .poisoned].map DataStatus.code = [0, 1, 2] ∧
   [DoneStatus.ok, .poisoned].map DoneStatus.code = [0, 2] ∧
   [RefuseReason.notReady, .retained, .malformed, .requesterOff, .noWindow, .denied, .tagInUse, .quota, .full,
     .noWriteSlot].map RefuseReason.code = [1, 2, 3, 4, 5, 6, 7, 8, 9, 10] ∧
   [CancelResult.tooLate, .unknown].map CancelResult.code = [1, 2] ∧
   [MStatus.ok, .unknownObject, .readOnly, .badValue, .denied, .busy, .notReady, .invalid, .already,
     .abandoned].map MStatus.code = [0, 1, 2, 3, 4, 5, 6, 7, 8, 9] ∧
   [CommitCheck.none, .timingRange, .timingDwell, .timingQuad, .windowAlign, .windowFit, .windowOverlap,
     .noManager].map CommitCheck.code = [0, 1, 2, 3, 4, 5, 6, 7] ∧
   [RecoveryCause.ackTimeout, .replayRange, .ackRange, .signalLoss].map RecoveryCause.code = [1, 2, 3, 4] ∧
   [ProtocolCause.noSlot, .unknownKind].map ProtocolCause.code = [1, 2] ∧
   [StartKind.cold, .warm].map StartKind.code = [0, 1])

/-! ### management unit (chapters 8 to 10) -/

/-- MANAGE_FRAME (R153): appended while the queue holds fewer than 4 requests; answered BUSY while the busy hold is absent;
otherwise the frame stays in its receive slot. The reply echoes the bytes that the body carries as received (R155, R193);
an echoed byte that a body of fewer than 5 bytes does not carry is free, which is the model's (log 14). -/
def Obligations.ManageFrameTaken : Prop :=
  ∀ (s : State) (f : RxFrame), s.rst = none → s.link.rx.find? RxFrame.isManage = some f →
    let link := { s.link with rx := s.link.rx.eraseP RxFrame.isManage, updateOwed := true }
    let busy : Echo → BusyReply := fun e => { frame := .manageReply e .busy .none 0 [], ahead := s.mgmt.replies.length }
    (s.mgmt.queue.length < 4 →
      exec .manageFrame s = .next { s with link := link, mgmt := { s.mgmt with queue := s.mgmt.queue ++ [f.body] } }) ∧
    (4 ≤ s.mgmt.queue.length → s.mgmt.busyHold = none → 5 ≤ f.body.length →
      exec .manageFrame s =
        .next { s with link := link, mgmt := { s.mgmt with busyHold := some (busy (echoFields f.body)) } }) ∧
    (4 ≤ s.mgmt.queue.length → s.mgmt.busyHold = none → f.body.length < 5 →
      ∃ e : Echo, e.HoldsOf f.body ∧ exec .manageFrame s =
        .next { s with
          draws := s.draws + 1
          link := link
          mgmt := { s.mgmt with busyHold := some (busy e) } }) ∧
    (4 ≤ s.mgmt.queue.length → s.mgmt.busyHold ≠ none → exec .manageFrame s = .next s)

/-- R154: a request of any row that fails a test is answered with the test's status, and nothing else changes; a request
that no operation carries out (UNKNOWN_OPERATION) fails one, and so does a body of fewer than 7 bytes. The reply echoes the
bytes that the body carries as received (R155, R193). The model's own: which command a failing or unknown request is (log
25), and that an echoed byte that a body of fewer than 5 bytes does not carry is free (log 14). -/
def Obligations.FailingRequestChangesNothing : Prop :=
  (∀ (row : Row) (s : State) (body : List Byte) (rest : List (List Byte)) (st : MStatus), s.Takes row body rest →
    s.requestTests body = some st →
    exec row.command s =
      .next { s with mgmt :=
        { s.mgmt with queue := rest, replies := [.manageReply (echoFields body) st .none 0 []] } }) ∧
  (∀ (s : State) (body : List Byte) (rest : List (List Byte)), s.Takes .unknown body rest →
    ∃ st, st ≠ .ok ∧ exec .unknownOperation s =
      .next { s with mgmt :=
        { s.mgmt with queue := rest, replies := [.manageReply (echoFields body) st .none 0 []] } }) ∧
  ∀ (s : State) (body : List Byte) (rest : List (List Byte)), s.rst = none → s.mgmt.queue = body :: rest →
    s.mgmt.replies = [] → s.mgmt.resetTaken = false → body.length < 5 →
    ∃ e : Echo, e.HoldsOf body ∧ exec (rowOf body).command s =
      .next { s with
        draws := s.draws + 1
        mgmt := { s.mgmt with queue := rest, replies := [.manageReply e .badValue .none 0 []] } }

/-- R154: the six tests in order, each with its status, and test 6 of an operation only where the first five pass. What
the tests read: the operation codes (section 11.3), the object space with each object's kind and index range (R156), the
actions and their value lengths (R160, R194), which row of the command table a request is (the model's reading, log 25), and
what a SET's value must hold (R17, R33, R42, R130, R186, R194): its
length, and each field within its values, the fields of more than one byte most significant byte first. -/
def Obligations.RequestTestOrder : Prop :=
  (∀ body : List Byte,
     ((mopOf body = .get ↔ body[2]? = some 0) ∧ (mopOf body = .set ↔ body[2]? = some 1) ∧
       (mopOf body = .commit ↔ body[2]? = some 2) ∧ (mopOf body = .discard ↔ body[2]? = some 3) ∧
       (mopOf body = .action ↔ body[2]? = some 4)) ∧
     (∀ b, body[3]? = some b → objOf body = b.toNat) ∧ (∀ b, body[4]? = some b → idxOf body = b.toNat) ∧
     (∀ b, body[5]? = some b → (copyActive body = true ↔ b = 0)) ∧ valueOf body = body.drop 7 ∧
     ∀ a : Act, bodyAct body = some a ↔
       match a with
       | .enterRetain => body[3]? = some 0x02 ∧ body[7]? = some 1
       | .leaveRetain => body[3]? = some 0x02 ∧ body[7]? = some 2
       | .resetPart => body[3]? = some 0x02 ∧ body[7]? = some 3
       | .lapseClear => body[3]? = some 0x41 ∧ body[7]? = some 1
       | .clear => body[3]? = some 0x50 ∧ body[7]? = some 1) ∧
  (∀ body : List Byte, rowOf body =
     match mopOf body, objectOf (objOf body), bodyAct body with
     | .get, _, _ => .get
     | .set, some .noticeSettings, _ => .setNotice
     | .set, _, _ => .set
     | .commit, _, _ => .commit
     | .discard, _, _ => .discard
     | .action, _, some .enterRetain => .enterRetain
     | .action, _, some .leaveRetain => .leaveRetain
     | .action, _, some .resetPart => .resetPart
     | .action, _, some .lapseClear => .lapseClear
     | .action, _, some .clear => .clear
     | .action, _, none | .other, _, _ => .unknown) ∧
  (∀ a : Act, a.valueLength = if a = .lapseClear then 3 else 1) ∧
  (∀ (n : Nat) (o : Obj), objectOf n = some o ↔ n =
     match o with
     | .ident => 0x00
     | .partState => 0x01
     | .partControl => 0x02
     | .timing => 0x08
     | .window i => 0x10 + i.val
     | .requester r => 0x30 + r.val
     | .renewalStatus => 0x40
     | .lapseClear => 0x41
     | .linkStatus => 0x48
     | .linkSettings => 0x49
     | .faultCounters => 0x50
     | .noticeSettings => 0x58
     | .commitStatus => 0x59) ∧
  (∀ o : Obj, o.lastIndex = (if o = .renewalStatus then 15 else if o = .faultCounters then 10 else 0) ∧
     (o.staged = true ↔ o = .timing ∨ (∃ i, o = .window i) ∨ (∃ r, o = .requester r) ∨ o = .linkSettings) ∧
     (o.acts = true ↔ o = .partControl ∨ o = .lapseClear ∨ o = .faultCounters)) ∧
  (∀ (o : Obj) (v : List Byte),
     let num : Nat → Nat → Nat := fun i len => ((v.drop i).take len).foldl (fun n b => n * 256 + b.toNat) 0
     let within : Nat → Nat → Nat → Prop := fun n lo hi => lo ≤ n ∧ n ≤ hi
     setValueGood o v = true ↔
       match o with
       | .timing => v.length = 28 ∧ (∀ k < 9, within (num (2 * k) 2) 1 1023) ∧ within (num 18 2) 0 1023 ∧
           within (num 20 2) 1 1023 ∧ within (num 22 1) 8 128 ∧ (num 23 1 = 1 ∨ num 23 1 = 2 ∨ num 23 1 = 4) ∧
           within (num 24 1) 1 8 ∧ within (num 25 2) 0 1023 ∧ within (num 27 1) 0 1
       | .window _ => v.length = 13 ∧ within (num 0 1) 0 1 ∧ within (num 1 1) 0 10 ∧ within (num 2 3) 0 1048575 ∧
           within (num 5 2) 0 1023 ∧ within (num 11 1) 0 1 ∧ within (num 12 1) 0 1
       | .requester _ => v.length = 7 ∧ within (num 0 1) 0 1 ∧ within (num 1 1) 0 1 ∧ within (num 2 1) 0 64 ∧
           within (num 3 1) 0 1 ∧ within (num 4 1) 0 1 ∧ within (num 5 1) 0 1 ∧ within (num 6 1) 1 255
       | .linkSettings => v.length = 4 ∧ within (num 0 2) 1 1023
       | .noticeSettings => v.length = 2 ∧ within (num 0 1) 0 15
       | _ => False) ∧
  ∀ (s : State) (body : List Byte),
    let op := mopOf body
    let form : Prop := 7 ≤ body.length ∧ (∃ r : ReqNo, body[0]? = some (byteOf r.val)) ∧ op ≠ .other ∧
      ∃ n : Byte, body[6]? = some n ∧ body.length = 7 + n.toNat
    let right : Prop := op = .get ∨ ∃ r : ReqNo, body[0]? = some (byteOf r.val) ∧
      (s.mgmt.active.requesters.get r).enabled = true ∧ (s.mgmt.active.requesters.get r).manager = true
    let held : Prop := (op = .set ∨ op = .commit ∨ op = .discard) ∧ s.mgmt.commit.state ≠ .none
    (formGood body = true ↔ form) ∧
    (∀ r : ReqNo, s.actsAsManager r.val = true ↔
      (s.mgmt.active.requesters.get r).enabled = true ∧ (s.mgmt.active.requesters.get r).manager = true) ∧
    (¬form → s.requestTests body = some .badValue) ∧
    (form → ¬right → s.requestTests body = some .denied) ∧
    (form → right → held → s.requestTests body = some .busy) ∧
    (form → right → ¬held → op = .commit ∨ op = .discard → s.requestTests body = none) ∧
    (form → right → ¬held → op = .get ∨ op = .set ∨ op = .action → objectOf (objOf body) = none →
      s.requestTests body = some .unknownObject) ∧
    ∀ o, form → right → ¬held → objectOf (objOf body) = some o →
      let indexGood : Prop := idxOf body ≤ o.lastIndex
      (op = .get → (s.requestTests body = none ↔ indexGood) ∧ (s.requestTests body = some .badValue ↔ ¬indexGood)) ∧
      (op = .set →
        let permitted : Prop := o = .noticeSettings ∨ o.staged = true ∧ copyActive body = false
        (¬permitted → s.requestTests body = some .readOnly) ∧
        (permitted → indexGood ∧ setValueGood o (valueOf body) = true → s.requestTests body = none) ∧
        (permitted → ¬(indexGood ∧ setValueGood o (valueOf body) = true) → s.requestTests body = some .badValue)) ∧
      (op = .action →
        (o.acts = false → s.requestTests body = some .readOnly) ∧
        (o.acts = true → bodyAct body = none → s.requestTests body = some .badValue) ∧
        (∀ a, o.acts = true → bodyAct body = some a →
          let good : Prop := (indexGood ∨ a = .clear) ∧ (valueOf body).length = a.valueLength
          (good → s.requestTests body = none) ∧ (¬good → s.requestTests body = some .badValue)))

/-- GET (R157): answered OK with the value of the object, whatever the part state, a commit in progress or the sender's
rights; the copy field chooses the copy of a staged object; an action object has no value; no state but the queue and the
reply list changes. The values of the read objects and of NOTICE-SETTINGS, byte by byte, with the codes of their fields
(R130, R156, R168, R185, R186, R194); LayoutsRoundTrip has those of the staged objects. That the revision of IDENT, which
the manual does not give, is one byte that never changes is the model's choice (log 15). -/
def Obligations.GetAnswersValue : Prop :=
  (∃ revision : Byte, ∀ (s : State) (body : List Byte) (rest : List (List Byte)) (o : Obj), s.Takes .get body rest →
    formGood body = true → objectOf (objOf body) = some o → idxOf body ≤ o.lastIndex →
    ∃ value : List Byte,
      exec .get s =
        .next { s with mgmt :=
          { s.mgmt with queue := rest, replies := [.manageReply (echoFields body) .ok .none 0 value] } } ∧
      (let m := s.mgmt
       let copy : Objects := if copyActive body = true then m.active else m.staged
       let word : Nat → List Byte := fun n => [byteOf (n / 256), byteOf n]
       let flag : Bool → Byte := fun b => if b then 1 else 0
       (o = .timing → value = copy.timing.bytes) ∧ (∀ i, o = .window i → value = (copy.windows.get i).bytes) ∧
       (∀ r, o = .requester r → value = (copy.requesters.get r).bytes) ∧ (o = .linkSettings → value = copy.link.bytes) ∧
       (o = .partControl ∨ o = .lapseClear → value = []) ∧
       (o = .ident → value = [0x3A, 0x71, 0x42, 0x16, revision, 16, 0x80, 0, 32, 64, 32, 32, 32, 16, 8, 32, 4, 16,
         m.part.lastStart.code]) ∧
       (o = .partState → value =
         [m.part.state.code, s.port.mode.code, if s.link.live then s.link.session else 0, byteOf s.sched.list.length,
          byteOf (s.adm.slots.count fun w => w = none), byteOf (s.resp.slots.count fun x => x = .free)]) ∧
       (∀ b : BankNo, o = .renewalStatus → idxOf body = b.val →
         let r := s.ren.records.get b
         ∃ debt : Byte, value = [debt, flag r.exempt, flag r.lapse] ∧ (-4 ≤ r.debt → r.debt ≤ 8 → debt.toInt = r.debt)) ∧
       (o = .linkStatus → value =
         [s.link.state.code, s.link.session, flag s.link.live, s.link.expect, s.link.nextSeq, byteOf s.link.ring.length,
          s.link.sendLimit, byteOf s.link.expiries] ++ word (m.counters.get 9)) ∧
       (∀ i : Fin 11, o = .faultCounters → idxOf body = i.val → value = word (m.counters.get i)) ∧
       (o = .noticeSettings → value = [byteOf m.notice.destination.val, m.notice.enables]) ∧
       (o = .commitStatus → value =
         [m.status.lastResult.code, m.status.check.code, byteOf m.status.checkIndex, m.commit.state.code,
          flag m.status.stagedDiffers] ++ word m.status.epoch))) ∧
  [PartState.starting, .serving, .draining, .retained, .resuming].map PartState.code = [0, 1, 2, 3, 4] ∧
  [PortMode.init, .run, .halting, .halted, .held, .waking].map PortMode.code = [0, 1, 2, 3, 4, 5] ∧
  [LinkState.down, .training, .up, .recovery].map LinkState.code = [0, 1, 2, 3] ∧
  [CommitResult.none, .ok, .invalid].map CommitResult.code = [0, 1, 2] ∧
  [CommitState.none, .listWait, .haltWait].map CommitState.code = [0, 1, 2] ∧
  [CommitCheck.none, .timingRange, .timingDwell, .timingQuad, .windowAlign, .windowFit, .windowOverlap,
    .noManager].map CommitCheck.code = [0, 1, 2, 3, 4, 5, 6, 7] ∧
  [StartKind.cold, .warm].map StartKind.code = [0, 1]

/-- SET (R158): the staged copy of the one object takes the value carried, whole, so that a GET of it gives the same bytes
back; no other staged object and no active copy changes, and the staged-differs flag tells whether the copies differ. -/
def Obligations.SetWritesStagedCopy : Prop :=
  ∀ (s : State) (body : List Byte) (rest : List (List Byte)) (o : Obj), s.Takes .set body rest →
    s.requestTests body = none → objectOf (objOf body) = some o →
    ∃ staged : Objects,
      exec .set s =
        .next { s with mgmt :=
          { s.mgmt with
            queue := rest
            staged := staged
            status := { s.mgmt.status with stagedDiffers := decide (staged ≠ s.mgmt.active) }
            replies := [.manageReply (echoFields body) .ok .none 0 []] } } ∧
      (∀ t : State, t.mgmt.staged = staged → t.getValue o 0 false = valueOf body) ∧
      (o = .timing → staged.timing.bytes = valueOf body) ∧
      (∀ i, o = .window i → (staged.windows.get i).bytes = valueOf body) ∧
      (∀ r, o = .requester r → (staged.requesters.get r).bytes = valueOf body) ∧
      (o = .linkSettings → staged.link.bytes = valueOf body) ∧
      (o ≠ .timing → staged.timing = s.mgmt.staged.timing) ∧
      (∀ i, o ≠ .window i → staged.windows.get i = s.mgmt.staged.windows.get i) ∧
      (∀ r, o ≠ .requester r → staged.requesters.get r = s.mgmt.staged.requesters.get r) ∧
      (o ≠ .linkSettings → staged.link = s.mgmt.staged.link)

/-- SET_NOTICE_SETTINGS (R159): the one copy takes the destination and the enables carried, at once, whatever the copy
field; staged and active copies, COMMIT-STATUS and its flag are untouched, no COMMIT or DISCARD changes NOTICE-SETTINGS,
and while a commit is in progress the SET is answered BUSY and changes nothing. -/
def Obligations.NoticeSettingsAreImmediate : Prop :=
  (∀ (s : State) (body : List Byte) (rest : List (List Byte)) (d : ReqNo) (enables : Byte),
    s.Takes .setNotice body rest → s.actsAsManager (fieldAt body 0 1) = true → idxOf body = 0 →
    body.length = 9 → fieldAt body 0 1 < 16 → fieldAt body 6 1 = 2 → valueOf body = [byteOf d.val, enables] →
    (s.mgmt.commit.state = .none →
      exec .setNoticeSettings s =
        .next { s with mgmt :=
          { s.mgmt with
            queue := rest
            notice := { destination := d, enables := enables }
            replies := [.manageReply (echoFields body) .ok .none 0 []] } }) ∧
    (s.mgmt.commit.state ≠ .none →
      exec .setNoticeSettings s =
        .next { s with mgmt :=
          { s.mgmt with queue := rest, replies := [.manageReply (echoFields body) .busy .none 0 []] } })) ∧
  ∀ (s t : State), exec .commit s = .next t ∨ exec .discard s = .next t → t.mgmt.notice = s.mgmt.notice

/-- R17, R41, R49, R162: validation passes exactly where every test holds, and otherwise reports the first that fails in
the order of the table, with its index: the first bad field or window, or the higher window of the first overlapping
pair. The fields of the timing profile stand in the order of section 1.5, each with its MIN and MAX; the renewal rate takes
1, 2 and 4 only, and the map mode, the last, has no value outside its range. -/
def Obligations.ValidationOrder : Prop :=
  ∀ o : Objects,
    let w := o.windows.get
    let t := o.timing
    let fields : List (Nat × Nat × Nat) :=
      [(t.tOa, 1, 1023), (t.tDwell, 1, 1023), (t.tClose, 1, 1023), (t.tWrec, 1, 1023), (t.tRd, 1, 1023),
       (t.tWr, 1, 1023), (t.tRen, 1, 1023), (t.tOo, 1, 1023), (t.tQuad, 1, 1023), (t.tTurn, 0, 1023),
       (t.tExit, 1, 1023), (t.renewalInterval, 8, 128), (t.renewalRate, 1, 4), (t.urgentLevel, 1, 8),
       (t.idleClose, 0, 1023)]
    let bad : Nat → Prop := fun i => ∃ v lo hi, fields[i]? = some (v, lo, hi) ∧ (v < lo ∨ hi < v ∨ i = 12 ∧ v = 3)
    let inRange : Prop := ∀ i, ¬bad i
    let dwell : Prop := o.timing.tOa ≤ o.timing.tDwell
    let quad : Prop := o.timing.tOo ≤ o.timing.tQuad
    let aligned : Fin 32 → Prop := fun i => (w i).valid = true → 2 ^ (w i).sizeExp ∣ (w i).logicalBase
    let fits : Fin 32 → Prop := fun i => (w i).valid = true → (w i).physicalBase + 2 ^ (w i).sizeExp ≤ 1024
    let clash : Fin 32 → Fin 32 → Prop := fun i j => i < j ∧ (w i).valid = true ∧ (w j).valid = true ∧
      ∃ n, (w i).logicalBase ≤ n ∧ n < (w i).logicalBase + 2 ^ (w i).sizeExp ∧ (w j).logicalBase ≤ n ∧
        n < (w j).logicalBase + 2 ^ (w j).sizeExp
    let manager : Prop := ∃ r, (o.requesters.get r).enabled = true ∧ (o.requesters.get r).manager = true
    (t.badField = none ↔ inRange) ∧
    (∀ i, bad i → (∀ j < i, ¬bad j) → t.badField = some i ∧ validate o = some (.timingRange, i)) ∧
    (inRange → ¬dwell → validate o = some (.timingDwell, 0)) ∧
    (inRange → dwell → ¬quad → validate o = some (.timingQuad, 0)) ∧
    (inRange → dwell → quad →
      (∀ i, ¬aligned i → (∀ j < i, aligned j) → validate o = some (.windowAlign, i.val)) ∧
      ((∀ i, aligned i) →
        (∀ i, ¬fits i → (∀ j < i, fits j) → validate o = some (.windowFit, i.val)) ∧
        ((∀ i, fits i) →
          (∀ i j, clash i j → (∀ m n, n < j → ¬clash m n) → validate o = some (.windowOverlap, j.val)) ∧
          ((∀ i j, ¬clash i j) →
            (¬manager → validate o = some (.noManager, 0)) ∧ (manager → validate o = none)))))

/-- COMMIT (R162, R163, R168): NOT-READY in STARTING; INVALID with the failing check, recorded; an immediate commit, and
any in RETAINED, takes its commit point at once; a timing commit asks for the halt and waits for HALTED; a map change waits
for the empty list first. -/
def Obligations.CommitOutcomes : Prop :=
  ∀ (s : State) (body : List Byte) (rest : List (List Byte)), s.Takes .commit body rest → s.requestTests body = none →
    let e := echoFields body
    let m := s.mgmt
    let with_ : Mgmt → State := fun m => { s with mgmt := m }
    (m.part.state = .starting → exec .commit s =
      .next (with_ { m with queue := rest, replies := [.manageReply e .notReady .none 0 []] })) ∧
    (m.part.state ≠ .starting →
      (∀ ck i, validate m.staged = some (ck, i) → exec .commit s =
        .next (with_
          { m with
            queue := rest
            status := { m.status with lastResult := .invalid, check := ck, checkIndex := i }
            replies := [.manageReply e .invalid ck i []] })) ∧
      (validate m.staged = none →
        (m.part.state = .retained ∨ m.staged.timing = m.active.timing → exec .commit s =
          .next ((with_
            { m with
              queue := rest
              commit := { state := .none, mapChange := false, replyOwed := some (.owed e) } }).commitPoint).settle) ∧
        (m.part.state ≠ .retained → m.staged.timing ≠ m.active.timing → m.staged.timing.mapMode = m.active.timing.mapMode →
          exec .commit s =
            .next ({ with_
              { m with
                queue := rest
                commit := { state := .haltWait, mapChange := false, replyOwed := some (.owed e) } } with
              port :=
                { s.port with
                  commitHalt := true
                  mode := if s.port.mode = .run then .halting else s.port.mode } } : State).settle) ∧
        (m.part.state ≠ .retained → m.staged.timing.mapMode ≠ m.active.timing.mapMode →
          exec .commit s =
            .next (with_
              { m with
                queue := rest
                commit := { state := .listWait, mapChange := true, replyOwed := some (.owed e) } }).settle)))

/-- The commit point (R20, R38, R39, R48, R77, R92, R104, R164, R167, R168): the active copies take the staged ones, the
exemption set is derived anew, the commit halt goes, and the reply owed is formed unless dropped. With the last halt gone
the mode becomes RUN, and the part leaves STARTING or RESUMING for SERVING (R173, R180); elsewhere mode and part record
stay. Entries keep their snapshots. Banks that leave the exemption set lose their guaranteed contents, but none in HELD,
where the array renews every bank (R22, R39): this is the model's reading (log 10), as is the failing index 0 beside the
result OK (log 18). That the debt of a bank that becomes exempt is set to 0 in HELD too, where R105 keeps the debts of the
hold issue, is the model's choice (log 31). -/
def Obligations.CommitPointEffects : Prop :=
  ∀ s : State,
    let o := s.mgmt.staged
    let t := s.commitPoint
    let touches : Window → BankNo → Prop := fun w b => o.timing.mapMode = .bankFirst ∨
      ∃ n, w.physicalBase ≤ n ∧ n < w.physicalBase + 2 ^ w.sizeExp ∧ b.val * 64 ≤ n ∧ n < b.val * 64 + 64
    let exempt : BankNo → Prop := fun b => (∃ i, (o.windows.get i).valid = true) ∧
      ∀ i, (o.windows.get i).valid = true → (o.windows.get i).content = .retained → ¬touches (o.windows.get i) b
    let back : Bool := s.port.commitHalt && !s.port.drainHalt &&
      (decide (s.port.mode = .halting) || decide (s.port.mode = .halted))
    let served : PartState → PartState
      | .starting | .resuming => .serving
      | p => p
    t.mgmt =
      { s.mgmt with
        active := o
        commit := { state := .none, mapChange := false, replyOwed := none }
        status :=
          { lastResult := .ok, check := .none, checkIndex := 0, stagedDiffers := false
            epoch := (s.mgmt.status.epoch + 1) % 65536 }
        part := { s.mgmt.part with state := if back then served s.mgmt.part.state else s.mgmt.part.state }
        replies := s.mgmt.replies ++
          (match s.mgmt.commit.replyOwed with | some (.owed e) => [.manageReply e .ok .none 0 []] | _ => []) } ∧
    t.port = { s.port with commitHalt := false, mode := if back then .run else s.port.mode } ∧
    (∀ b, let r := s.ren.records.get b
      (exempt b → t.ren.records.get b = { r with exempt := true, debt := if r.exempt then r.debt else 0 }) ∧
      (¬exempt b → t.ren.records.get b = { r with exempt := false })) ∧
    (∀ b page chunk, page < 32768 → chunk < 64 →
      (s.port.mode ≠ .held → s.exemptBank b = true → ¬exempt b → t.array.find (chunkKey b page chunk) = none) ∧
      (s.port.mode = .held ∨ s.exemptBank b = false ∨ exempt b →
        t.array.find (chunkKey b page chunk) = s.array.find (chunkKey b page chunk))) ∧
    t.sched.list = s.sched.list.map (fun e =>
      if e.state = .waiting ∧ (o.requesters.get e.requester).ageLimit ≤ e.bypass then { e with overdue := true } else e) ∧
    (∀ b, t.sched.idle.get b = if o.timing.idleClose = 0 then .stopped else s.sched.idle.get b) ∧
    t = { s with
      mgmt := t.mgmt
      port := t.port
      ren := { s.ren with records := t.ren.records }
      array := t.array
      sched := { s.sched with list := t.sched.list, idle := t.sched.idle } }

/-- What follows in the event itself (R20, R22, R106, R163, R165, R175 to R177): the empty list lets a map change and a
drain ask for their halts, each or both in one event, whether a bank is still to be closed or not; HALTED comes when every bank is CLOSED, at once where every bank is CLOSED already; the commit
point comes before the hold, whether the commit waits for the list or for the halt and the drain is in stage LIST, HALT or
HOLD; a drain in stage HALT sends its hold request at HALTED, in the ordinary case where no commit is in progress as after
one; the hold waits for every RENEWING bank, stops the tick timer and makes the part RETAINED, with the reply owed to an
ENTER-RETAIN. From the hold on the array keeps what it kept until then, so that the chunks of a bank that is exempt at the
hold are not guaranteed (R39): this is the model's reading (log 10). -/
def Obligations.HaltAndDrainAdvance : Prop :=
  ∀ s : State,
    let draining : Prop := s.mgmt.part.state = .draining ∧ s.mgmt.part.stage = some .list
    let unhalted : Prop := (s.port.mode = .run ∨ s.port.mode = .halting) ∧ s.banksIn .closed < 16 ∨ s.port.mode = .init ∨ s.port.mode = .waking
    let waits : Prop := s.mgmt.commit.state = .listWait ∨ s.mgmt.commit.state = .haltWait
    let held : State → State := fun v =>
      { v with
        port := { v.port with mode := .held, holdReq := false, banks := Table.fill 16 (Bank.idle .held) }
        ren := { v.ren with tick := none }
        array := v.array.decayWhere v.exemptBank
        mgmt :=
          { v.mgmt with
            part := { v.mgmt.part with state := .retained, stage := none, retainOwed := none }
            replies := v.mgmt.replies ++
              (match v.mgmt.part.retainOwed with | some e => [.manageReply e .ok .none 0 []] | none => []) } }
    let bothHalts : PortMode → State := fun mode =>
      { s with
        port :=
          { s.port with
            commitHalt := s.port.commitHalt || decide (s.mgmt.commit.state = .listWait)
            drainHalt := true
            mode := mode }
        mgmt :=
          { s.mgmt with
            commit := { s.mgmt.commit with state := .haltWait }
            part := { s.mgmt.part with stage := some .halt } } }
    (∀ st, s.banksIn st = ((List.finRange 16).filter fun b => (s.bank b).state = st).length) ∧
    (∀ b page chunk, page < 32768 → chunk < 64 →
      (s.array.decayWhere s.exemptBank).find (chunkKey b page chunk) =
        if s.exemptBank b = true then none else s.array.find (chunkKey b page chunk)) ∧
    (s.sched.list ≠ [] ∨ s.mgmt.commit.state ≠ .listWait ∧ ¬draining →
      s.port.mode = .run ∨ s.port.mode = .halting ∧ s.banksIn .closed < 16 → s.advance = s) ∧
    (s.sched.list = [] → draining → s.mgmt.commit.state = .none → unhalted →
      s.advance =
        { s with
          port := { s.port with drainHalt := true, mode := if s.port.mode = .run then .halting else s.port.mode }
          mgmt := { s.mgmt with part := { s.mgmt.part with stage := some .halt } } }) ∧
    (s.sched.list = [] → s.mgmt.commit.state = .listWait → s.mgmt.part.stage = none → unhalted →
      s.advance =
        { s with
          port := { s.port with commitHalt := true, mode := if s.port.mode = .run then .halting else s.port.mode }
          mgmt := { s.mgmt with commit := { s.mgmt.commit with state := .haltWait } } }) ∧
    (s.port.mode = .halting ∧ (∀ b, (s.bank b).state = .closed) ∨ s.port.mode = .halted →
      s.mgmt.commit.state = .haltWait → s.mgmt.part.stage = none → s.port.holdReq = false → s.port.drainHalt = false →
      s.advance = ({ s with port := { s.port with mode := .halted } } : State).commitPoint) ∧
    (s.mgmt.part.stage = some .halt → s.mgmt.commit.state = .none →
      (s.port.mode = .halting → (∀ b, (s.bank b).state = .closed) → s.advance = held s) ∧
      (s.port.mode = .halted → s.banksIn .renewing = 0 → s.advance = held s) ∧
      (s.port.mode = .halted → 0 < s.banksIn .renewing →
        s.advance =
          { s with
            port := { s.port with holdReq := true }
            mgmt := { s.mgmt with part := { s.mgmt.part with stage := some .hold } } })) ∧
    (s.mgmt.part.stage = some .hold → s.mgmt.commit.state = .none → s.port.mode = .halted → s.port.holdReq = true →
      (0 < s.banksIn .renewing → s.advance = s) ∧ (s.banksIn .renewing = 0 → s.advance = held s)) ∧
    (s.sched.list = [] → draining → s.mgmt.commit.state = .none → s.port.mode = .run ∨ s.port.mode = .halting →
      (∀ b, (s.bank b).state = .closed) →
      s.advance = held { s with port := { s.port with drainHalt := true } }) ∧
    (s.sched.list = [] → s.mgmt.commit.state = .listWait → s.mgmt.part.stage = none → s.port.holdReq = false →
      s.port.drainHalt = false → s.port.mode = .run ∨ s.port.mode = .halting → (∀ b, (s.bank b).state = .closed) →
      s.advance =
        ({ s with
          port := { s.port with commitHalt := true, mode := .halted }
          mgmt := { s.mgmt with commit := { s.mgmt.commit with state := .haltWait } } } : State).commitPoint) ∧
    (s.sched.list = [] → waits → s.mgmt.part.state = .draining →
      s.mgmt.part.stage = some .list ∨ s.mgmt.part.stage = some .halt ∧ s.port.drainHalt = true →
      unhalted → s.port.mode = .run → (draining ∨ s.mgmt.commit.state = .listWait) → s.advance = bothHalts .halting) ∧
    (s.sched.list = [] → waits → s.mgmt.part.state = .draining →
      s.mgmt.part.stage = some .list ∨ s.mgmt.part.stage = some .halt ∧ s.port.drainHalt = true →
      unhalted → s.port.mode ≠ .run → s.advance = bothHalts s.port.mode) ∧
    (s.sched.list = [] → waits → s.mgmt.part.state = .draining →
      s.mgmt.part.stage = some .list ∨ s.mgmt.part.stage = some .halt ∧ s.port.drainHalt = true →
      s.port.mode = .halting ∨ s.port.mode = .run ∧ (draining ∨ s.mgmt.commit.state = .listWait) →
      (∀ b, (s.bank b).state = .closed) →
      s.advance =
        held (bothHalts .halted).commitPoint) ∧
    (s.sched.list = [] → waits → s.mgmt.part.stage = some .hold → s.port.mode = .halted → s.port.holdReq = true →
      s.port.drainHalt = true →
      let v := ({ s with
        port := { s.port with commitHalt := s.port.commitHalt || decide (s.mgmt.commit.state = .listWait) }
        mgmt := { s.mgmt with commit := { s.mgmt.commit with state := .haltWait } } } : State).commitPoint
      (0 < s.banksIn .renewing → s.advance = v) ∧ (s.banksIn .renewing = 0 → s.advance = held v))

/-- DISCARD (R161): every staged copy takes its active copy, the flag becomes no, and the answer is OK; the epoch, the last
result and the active copies are unchanged; with no staged copy differing nothing changes but the queue and the answer; a
commit in progress has it answered BUSY. -/
def Obligations.DiscardRestoresStaged : Prop :=
  ∀ (s : State) (body : List Byte) (rest : List (List Byte)), s.Takes .discard body rest → formGood body = true →
    s.actsAsManager (fieldAt body 0 1) = true →
    let reply : MStatus → List OutFrame := fun st => [.manageReply (echoFields body) st .none 0 []]
    (s.mgmt.commit.state = .none → exec .discard s =
      .next { s with mgmt :=
        { s.mgmt with
          queue := rest
          staged := s.mgmt.active
          status := { s.mgmt.status with stagedDiffers := false }
          replies := reply .ok } }) ∧
    (s.mgmt.commit.state = .none → s.mgmt.staged = s.mgmt.active → s.mgmt.status.stagedDiffers = false →
      exec .discard s = .next { s with mgmt := { s.mgmt with queue := rest, replies := reply .ok } }) ∧
    (s.mgmt.commit.state ≠ .none →
      exec .discard s = .next { s with mgmt := { s.mgmt with queue := rest, replies := reply .busy } })

/-- LAPSE_CLEAR and CLEAR (R109, R160, R185, R194): the lapse flags of the named banks alone are cleared, whatever their
debts; all eleven counters become 0, and the notice queue, the next number and the dropped count stay. Both are answered
OK in every part state and while a commit is in progress. -/
def Obligations.ClearsTakeEffect : Prop :=
  (∀ (s : State) (body : List Byte) (rest : List (List Byte)) (hi lo : Byte), s.Takes .lapseClear body rest →
    s.requestTests body = none → valueOf body = [1, hi, lo] →
    ∃ records : Table 16 Renewal,
      (∀ b : BankNo, records.get b =
        if (if b.val < 8 then lo.getLsbD b.val else hi.getLsbD (b.val - 8)) then
          { s.ren.records.get b with lapse := false }
        else s.ren.records.get b) ∧
      exec .lapseClear s =
        .next { s with
          ren := { s.ren with records := records }
          mgmt := { s.mgmt with queue := rest, replies := [.manageReply (echoFields body) .ok .none 0 []] } }) ∧
  ∀ (s : State) (body : List Byte) (rest : List (List Byte)), s.Takes .clear body rest → s.requestTests body = none →
    exec .clear s =
      .next { s with mgmt :=
        { s.mgmt with
          queue := rest
          counters := Table.fill 11 0
          replies := [.manageReply (echoFields body) .ok .none 0 []] } }

/-- ENTER_RETAIN (R174, R175): SERVING begins the drain and owes the reply; DRAINING and RETAINED are answered ALREADY,
STARTING and RESUMING NOT-READY, and nothing else changes. LEAVE_RETAIN (R23, R107, R178, R179): RETAINED wakes the array
with every debt at 0; DRAINING ends the drain, with the ABANDONED reply of an ENTER-RETAIN before the OK; SERVING and
RESUMING are answered ALREADY and STARTING NOT-READY. -/
def Obligations.RetainOutcomes : Prop :=
  (∀ (s : State) (body : List Byte) (rest : List (List Byte)), s.Takes .enterRetain body rest →
     s.requestTests body = none →
     let answered : MStatus → State := fun st =>
       { s with mgmt := { s.mgmt with queue := rest, replies := [.manageReply (echoFields body) st .none 0 []] } }
     (s.mgmt.part.state = .serving → exec .enterRetain s =
       .next ({ s with mgmt :=
         { s.mgmt with
           queue := rest
           part :=
             { s.mgmt.part with
               state := .draining, stage := some .list, retainOwed := some (echoFields body) } } } : State).settle) ∧
     (s.mgmt.part.state = .draining ∨ s.mgmt.part.state = .retained → exec .enterRetain s = .next (answered .already)) ∧
     (s.mgmt.part.state = .starting ∨ s.mgmt.part.state = .resuming → exec .enterRetain s = .next (answered .notReady))) ∧
  (∀ (s : State) (body : List Byte) (rest : List (List Byte)), s.Takes .leaveRetain body rest →
     s.requestTests body = none →
     let m := s.mgmt
     let reply : MStatus → OutFrame := fun st => .manageReply (echoFields body) st .none 0 []
     let answered : MStatus → State := fun st => { s with mgmt := { m with queue := rest, replies := [reply st] } }
     let back : Bool := !s.port.commitHalt && s.port.drainHalt &&
       (decide (s.port.mode = .halting) || decide (s.port.mode = .halted))
     (m.part.state = .retained → s.port.mode = .held →
       ∃ records : Table 16 Renewal, (∀ b, records.get b = { s.ren.records.get b with debt := 0 }) ∧
         exec .leaveRetain s =
           .next ({ s with
             port := { s.port with drainHalt := false, mode := .waking, tExit := some (s.now + s.timing.tExit) }
             ren := { s.ren with records := records }
             mgmt :=
               { m with
                 queue := rest
                 part := { m.part with state := .resuming }
                 replies := [reply .ok] } } : State).settle) ∧
     (m.part.state = .draining →
       exec .leaveRetain s =
         .next ({ s with
           port := { s.port with drainHalt := false, holdReq := false, mode := if back then .run else s.port.mode }
           mgmt :=
             { m with
               queue := rest
               part :=
                 { m.part with
                   state := if s.port.mode = .init then .starting else if s.port.mode = .waking then .resuming
                     else .serving
                   stage := none
                   retainOwed := none }
               replies :=
                 (match m.part.retainOwed with | some e => [.manageReply e .abandoned .none 0 []] | none => []) ++
                   [reply .ok] } } : State).settle) ∧
     (m.part.state = .serving ∨ m.part.state = .resuming → exec .leaveRetain s = .next (answered .already)) ∧
     (m.part.state = .starting → exec .leaveRetain s = .next (answered .notReady)))

/-- R184, R187, R188: a fault report raises its counter, which stays at 65535; an enabled kind joins the notice queue with
the next number and the dropped count, or is dropped where 16 records stand; a disabled kind is no drop. -/
def Obligations.ReportsCountedAndQueued : Prop :=
  (∀ r : Report, r.counter =
     match r with
     | .renewalOverrun _ => 0
     | .uncorrectableData .. => 1
     | .correctedData .. => 2
     | .mergePoison .. => 3
     | .linkRecovery _ => 4
     | .linkProtocol _ => 5
     | .sessionLost _ => 6
     | .started _ => 7) ∧
  ∀ (s : State) (r : Report),
    let m := s.mgmt
    let plus (c : Table 11 Nat) (i : Fin 11) : Table 11 Nat := c.set i (min 65535 (c.get i + 1))
    let on : Bool := m.notice.enables.getLsbD r.counter.val
    (on = false → s.report r = { s with mgmt := { m with counters := plus m.counters r.counter } }) ∧
    (on = true → m.notices.length < 16 →
      s.report r =
        { s with mgmt :=
          { m with
            counters := plus m.counters r.counter
            notices := m.notices ++ [{ number := m.nextNotice, report := r, dropped := m.dropped }]
            nextNotice := m.nextNotice + 1
            dropped := 0 } }) ∧
    (on = true → 16 ≤ m.notices.length →
      s.report r =
        { s with mgmt :=
          { m with
            counters := plus (plus m.counters r.counter) 10
            dropped := min 255 (m.dropped + 1) } })

/-! ### what every step keeps -/

/-- R130, R133, R140 to R145: the link controller stays well kept. -/
def Obligations.StepKeepsLink : Prop :=
  ∀ s t : State, s.LinkOk → step s = .next t → t.LinkOk

/-- R3, R5, R7 to R10, R12, R13, R15, R18 to R23, R97: the array port, its bank records, its modes and the tick timer stay
well kept. -/
def Obligations.StepKeepsPort : Prop :=
  ∀ s t : State, s.PortOk → step s = .next t → t.PortOk

/-- R96, R98, R103, R104, R107: every debt stays in −4 to +8, and an exempt bank's is 0, but for a renew that outlives two
commit points (R104). That it is 0 also where a commit point in HELD exempts the bank is the model's choice (log 31). -/
def Obligations.StepKeepsDebts : Prop :=
  ∀ s t : State, s.PortOk → s.DebtsOk → step s = .next t → t.DebtsOk

/-- R60, R68, R71, R72: the pending list stays in admission order, at most 64 entries, and hazard-linked. -/
def Obligations.StepKeepsPendingList : Prop :=
  ∀ s t : State, s.sched.Ok → step s = .next t → t.sched.Ok

/-- R53, R86, R112, R113, R117, R125: held tags, order-list places, response slots and reads stay in correspondence. -/
def Obligations.StepKeepsResponses : Prop :=
  ∀ s t : State, s.ResponseOk → step s = .next t → t.ResponseOk

/-- R1, R35, R41, R57: the stored chunks keep their canonical form, write slots and writes stay in correspondence, and
every entry's block stays in the array. The canonical form: chunk numbers strictly rising, each one of the array's, each
chunk of 32 bytes. -/
def Obligations.StepKeepsArray : Prop :=
  (∀ m : Store, m.wf = true ↔
     m.Pairwise (fun a b => a.1 < b.1) ∧ ∀ kc ∈ m, kc.1 < 33554432 ∧ kc.2.data.length = 32) ∧
  ∀ s t : State, s.ArrayOk → step s = .next t → t.ArrayOk

/-- R153, R155, R163, R174, R184, R187: the management unit's queues, counters and records stay within their bounds. -/
def Obligations.StepKeepsManagement : Prop :=
  ∀ s t : State, s.mgmt.Ok → step s = .next t → t.mgmt.Ok

/-- The seven records of well-kept state above hold right after reset (R24, R65, R94, R110, R128, R130, R153, R158). -/
def Obligations.ResetIsWellKept : Prop :=
  State.reset.LinkOk ∧ State.reset.PortOk ∧ State.reset.DebtsOk ∧ State.reset.sched.Ok ∧ State.reset.ResponseOk ∧
    State.reset.ArrayOk ∧ State.reset.mgmt.Ok

/-- R158, R161, R164, R167, R172: whatever command runs, the active copies stay; or a commit point has come, at which they
become the staged copies of before the command, the epoch rises by 1, the result is OK (with the failing index 0 beside it,
which is the model's reading, log 18) and no commit is left in progress; or a reset has come, and they hold their reset values in a part that is held in reset or has just started. -/
def Obligations.ActiveCopiesChangeAtCommitPoints : Prop :=
  ∀ (c : Instr) (s t : State), exec c s = .next t →
    t.mgmt.active = s.mgmt.active ∨
    (t.mgmt.active = s.mgmt.staged ∧ t.mgmt.staged = s.mgmt.staged ∧
      t.mgmt.commit = { state := .none, mapChange := false, replyOwed := none } ∧
      t.mgmt.status =
        { lastResult := .ok, check := .none, checkIndex := 0, stagedDiffers := false
          epoch := (s.mgmt.status.epoch + 1) % 65536 }) ∨
    (t.mgmt.active = Objects.reset ∧ ∃ kind, t.InReset kind ∨ t.rst = none ∧ t.Started kind t.array t.now)

/-- R1, R7, R25: only an access completion stores chunks; every other command keeps a stored chunk or leaves it no longer
guaranteed (R24, R39, R108). -/
def Obligations.OnlyCompletionsStoreChunks : Prop :=
  ∀ (c : Instr) (s t : State), (∀ b ups, c ≠ .accessCompletion b ups) → exec c s = .next t →
    ∀ k chunk, t.array.find k = some chunk → s.array.find k = some chunk
end

