-- ==== Sys2Proof/Laws/State.lean ====
section
/-! SUPPORT. One lemma per field per update of State, and reading back a table's entry. -/

namespace Sys2Proof

/-! ### tables -/

@[simp] theorem Table.get_set_same {n : Nat} {α : Type} (t : Table n α) (i : Fin n) (a : α) : (t.set i a).get i = a := by
  simp [Table.get, Table.set]

theorem Table.get_set_ne {n : Nat} {α : Type} (t : Table n α) {i j : Fin n} (a : α) (h : j ≠ i) :
    (t.set i a).get j = t.get j := by
  simp [Table.get, Table.set, show (i : Nat) ≠ j from fun e => h (Fin.ext e.symm)]

@[simp] theorem Table.get_fill {n : Nat} {α : Type} (a : α) (i : Fin n) : (Table.fill n a).get i = a := by
  simp [Table.get, Table.fill]

@[simp] theorem Table.get_ofFn {n : Nat} {α : Type} (f : Fin n → α) (i : Fin n) : (Table.ofFn f).get i = f i := by
  simp [Table.get, Table.ofFn]

@[simp] theorem Table.get_mapIdx {n : Nat} {α β : Type} (t : Table n α) (f : Fin n → α → β) (i : Fin n) :
    (t.mapIdx f).get i = f i (t.get i) := by
  simp [Table.mapIdx]

/-- Tables that agree at every number are equal. -/
theorem Table.ext_get {n : Nat} {α : Type} {t u : Table n α} (h : ∀ i, t.get i = u.get i) : t = u := by
  obtain ⟨r, hr⟩ := t
  obtain ⟨q, hq⟩ := u
  have : r = q := List.ext_getElem (by omega) fun k h1 _ => h ⟨k, by omega⟩
  subst this
  rfl

/-- The first number found satisfies the test. -/
theorem Table.findIdx?_some {n : Nat} {α : Type} {t : Table n α} {p : α → Bool} {i : Fin n}
    (h : t.findIdx? p = some i) : p (t.get i) = true := by
  simpa using List.find?_some (p := fun i => p (t.get i)) h

/-- A number is found as soon as one thing satisfies the test. -/
theorem Table.findIdx?_isSome {n : Nat} {α : Type} {t : Table n α} {p : α → Bool} (h : 0 < t.count p) :
    ∃ i, t.findIdx? p = some i := by
  obtain ⟨i, _, hi⟩ := List.countP_pos_iff.1 h
  exact Option.isSome_iff_exists.1 (List.find?_isSome.2 ⟨i, List.mem_finRange i, hi⟩)

end Sys2Proof

namespace Sys2Proof.Machine

/-! ### the clock -/

@[simp] theorem State.reach_pending (s : State) (d : Nat) : (s.reach d).pending = s.pending := rfl
@[simp] theorem State.reach_draws (s : State) (d : Nat) : (s.reach d).draws = s.draws := rfl
@[simp] theorem State.reach_rst (s : State) (d : Nat) : (s.reach d).rst = s.rst := rfl
@[simp] theorem State.reach_laneSignal (s : State) (d : Nat) : (s.reach d).laneSignal = s.laneSignal := rfl
@[simp] theorem State.reach_txLane (s : State) (d : Nat) : (s.reach d).txLane = s.txLane := rfl
@[simp] theorem State.reach_link (s : State) (d : Nat) : (s.reach d).link = s.link := rfl
@[simp] theorem State.reach_adm (s : State) (d : Nat) : (s.reach d).adm = s.adm := rfl
@[simp] theorem State.reach_sched (s : State) (d : Nat) : (s.reach d).sched = s.sched := rfl
@[simp] theorem State.reach_port (s : State) (d : Nat) : (s.reach d).port = s.port := rfl
@[simp] theorem State.reach_array (s : State) (d : Nat) : (s.reach d).array = s.array := rfl
@[simp] theorem State.reach_ren (s : State) (d : Nat) : (s.reach d).ren = s.ren := rfl
@[simp] theorem State.reach_resp (s : State) (d : Nat) : (s.reach d).resp = s.resp := rfl
@[simp] theorem State.reach_mgmt (s : State) (d : Nat) : (s.reach d).mgmt = s.mgmt := rfl
@[simp] theorem State.reach_now (s : State) (d : Nat) : (s.reach d).now = max s.now d := rfl

/-! ### banks -/

@[simp] theorem State.setBank_pending (s : State) (b : BankNo) (r : Bank) : (s.setBank b r).pending = s.pending := rfl
@[simp] theorem State.setBank_now (s : State) (b : BankNo) (r : Bank) : (s.setBank b r).now = s.now := rfl
@[simp] theorem State.setBank_draws (s : State) (b : BankNo) (r : Bank) : (s.setBank b r).draws = s.draws := rfl
@[simp] theorem State.setBank_rst (s : State) (b : BankNo) (r : Bank) : (s.setBank b r).rst = s.rst := rfl
@[simp] theorem State.setBank_laneSignal (s : State) (b : BankNo) (r : Bank) : (s.setBank b r).laneSignal = s.laneSignal := rfl
@[simp] theorem State.setBank_txLane (s : State) (b : BankNo) (r : Bank) : (s.setBank b r).txLane = s.txLane := rfl
@[simp] theorem State.setBank_link (s : State) (b : BankNo) (r : Bank) : (s.setBank b r).link = s.link := rfl
@[simp] theorem State.setBank_adm (s : State) (b : BankNo) (r : Bank) : (s.setBank b r).adm = s.adm := rfl
@[simp] theorem State.setBank_sched (s : State) (b : BankNo) (r : Bank) : (s.setBank b r).sched = s.sched := rfl
@[simp] theorem State.setBank_array (s : State) (b : BankNo) (r : Bank) : (s.setBank b r).array = s.array := rfl
@[simp] theorem State.setBank_ren (s : State) (b : BankNo) (r : Bank) : (s.setBank b r).ren = s.ren := rfl
@[simp] theorem State.setBank_resp (s : State) (b : BankNo) (r : Bank) : (s.setBank b r).resp = s.resp := rfl
@[simp] theorem State.setBank_mgmt (s : State) (b : BankNo) (r : Bank) : (s.setBank b r).mgmt = s.mgmt := rfl
@[simp] theorem State.bank_setBank_same (s : State) (b : BankNo) (r : Bank) : (s.setBank b r).bank b = r := by
  simp [State.bank, State.setBank]
theorem State.bank_setBank_ne (s : State) {b c : BankNo} (r : Bank) (h : c ≠ b) : (s.setBank b r).bank c = s.bank c := by
  simp [State.bank, State.setBank, Table.get_set_ne _ _ h]
@[simp] theorem State.setBank_port_mode (s : State) (b : BankNo) (r : Bank) : (s.setBank b r).port.mode = s.port.mode := rfl
@[simp] theorem State.setBank_port_history (s : State) (b : BankNo) (r : Bank) : (s.setBank b r).port.history = s.port.history := rfl
@[simp] theorem State.setBank_port_direction (s : State) (b : BankNo) (r : Bank) : (s.setBank b r).port.direction = s.port.direction := rfl
@[simp] theorem State.setBank_port_lastAccess (s : State) (b : BankNo) (r : Bank) : (s.setBank b r).port.lastAccess = s.port.lastAccess := rfl
@[simp] theorem State.setBank_port_commitHalt (s : State) (b : BankNo) (r : Bank) : (s.setBank b r).port.commitHalt = s.port.commitHalt := rfl
@[simp] theorem State.setBank_port_drainHalt (s : State) (b : BankNo) (r : Bank) : (s.setBank b r).port.drainHalt = s.port.drainHalt := rfl
@[simp] theorem State.setBank_port_holdReq (s : State) (b : BankNo) (r : Bank) : (s.setBank b r).port.holdReq = s.port.holdReq := rfl
@[simp] theorem State.setBank_port_tInit (s : State) (b : BankNo) (r : Bank) : (s.setBank b r).port.tInit = s.port.tInit := rfl
@[simp] theorem State.setBank_port_tExit (s : State) (b : BankNo) (r : Bank) : (s.setBank b r).port.tExit = s.port.tExit := rfl

/-! ### pending list -/

@[simp] theorem State.setList_pending (s : State) (l : List Entry) : (s.setList l).pending = s.pending := rfl
@[simp] theorem State.setList_now (s : State) (l : List Entry) : (s.setList l).now = s.now := rfl
@[simp] theorem State.setList_draws (s : State) (l : List Entry) : (s.setList l).draws = s.draws := rfl
@[simp] theorem State.setList_rst (s : State) (l : List Entry) : (s.setList l).rst = s.rst := rfl
@[simp] theorem State.setList_laneSignal (s : State) (l : List Entry) : (s.setList l).laneSignal = s.laneSignal := rfl
@[simp] theorem State.setList_txLane (s : State) (l : List Entry) : (s.setList l).txLane = s.txLane := rfl
@[simp] theorem State.setList_link (s : State) (l : List Entry) : (s.setList l).link = s.link := rfl
@[simp] theorem State.setList_adm (s : State) (l : List Entry) : (s.setList l).adm = s.adm := rfl
@[simp] theorem State.setList_port (s : State) (l : List Entry) : (s.setList l).port = s.port := rfl
@[simp] theorem State.setList_array (s : State) (l : List Entry) : (s.setList l).array = s.array := rfl
@[simp] theorem State.setList_ren (s : State) (l : List Entry) : (s.setList l).ren = s.ren := rfl
@[simp] theorem State.setList_resp (s : State) (l : List Entry) : (s.setList l).resp = s.resp := rfl
@[simp] theorem State.setList_mgmt (s : State) (l : List Entry) : (s.setList l).mgmt = s.mgmt := rfl
@[simp] theorem State.setList_list (s : State) (l : List Entry) : (s.setList l).sched.list = l := rfl
@[simp] theorem State.updEntry_pending (s : State) (i : Nat) (g : Entry → Entry) : (s.updEntry i g).pending = s.pending := rfl
@[simp] theorem State.updEntry_now (s : State) (i : Nat) (g : Entry → Entry) : (s.updEntry i g).now = s.now := rfl
@[simp] theorem State.updEntry_draws (s : State) (i : Nat) (g : Entry → Entry) : (s.updEntry i g).draws = s.draws := rfl
@[simp] theorem State.updEntry_rst (s : State) (i : Nat) (g : Entry → Entry) : (s.updEntry i g).rst = s.rst := rfl
@[simp] theorem State.updEntry_laneSignal (s : State) (i : Nat) (g : Entry → Entry) : (s.updEntry i g).laneSignal = s.laneSignal := rfl
@[simp] theorem State.updEntry_txLane (s : State) (i : Nat) (g : Entry → Entry) : (s.updEntry i g).txLane = s.txLane := rfl
@[simp] theorem State.updEntry_link (s : State) (i : Nat) (g : Entry → Entry) : (s.updEntry i g).link = s.link := rfl
@[simp] theorem State.updEntry_adm (s : State) (i : Nat) (g : Entry → Entry) : (s.updEntry i g).adm = s.adm := rfl
@[simp] theorem State.updEntry_port (s : State) (i : Nat) (g : Entry → Entry) : (s.updEntry i g).port = s.port := rfl
@[simp] theorem State.updEntry_array (s : State) (i : Nat) (g : Entry → Entry) : (s.updEntry i g).array = s.array := rfl
@[simp] theorem State.updEntry_ren (s : State) (i : Nat) (g : Entry → Entry) : (s.updEntry i g).ren = s.ren := rfl
@[simp] theorem State.updEntry_resp (s : State) (i : Nat) (g : Entry → Entry) : (s.updEntry i g).resp = s.resp := rfl
@[simp] theorem State.updEntry_mgmt (s : State) (i : Nat) (g : Entry → Entry) : (s.updEntry i g).mgmt = s.mgmt := rfl
@[simp] theorem State.removeEntry_pending (s : State) (e : Entry) : (s.removeEntry e).pending = s.pending := rfl
@[simp] theorem State.removeEntry_now (s : State) (e : Entry) : (s.removeEntry e).now = s.now := rfl
@[simp] theorem State.removeEntry_draws (s : State) (e : Entry) : (s.removeEntry e).draws = s.draws := rfl
@[simp] theorem State.removeEntry_rst (s : State) (e : Entry) : (s.removeEntry e).rst = s.rst := rfl
@[simp] theorem State.removeEntry_laneSignal (s : State) (e : Entry) : (s.removeEntry e).laneSignal = s.laneSignal := rfl
@[simp] theorem State.removeEntry_txLane (s : State) (e : Entry) : (s.removeEntry e).txLane = s.txLane := rfl
@[simp] theorem State.removeEntry_link (s : State) (e : Entry) : (s.removeEntry e).link = s.link := rfl
@[simp] theorem State.removeEntry_adm (s : State) (e : Entry) : (s.removeEntry e).adm = s.adm := rfl
@[simp] theorem State.removeEntry_port (s : State) (e : Entry) : (s.removeEntry e).port = s.port := rfl
@[simp] theorem State.removeEntry_array (s : State) (e : Entry) : (s.removeEntry e).array = s.array := rfl
@[simp] theorem State.removeEntry_ren (s : State) (e : Entry) : (s.removeEntry e).ren = s.ren := rfl
@[simp] theorem State.removeEntry_resp (s : State) (e : Entry) : (s.removeEntry e).resp = s.resp := rfl
@[simp] theorem State.removeEntry_mgmt (s : State) (e : Entry) : (s.removeEntry e).mgmt = s.mgmt := rfl
@[simp] theorem State.freeWriteSlot_pending (s : State) (e : Entry) : (s.freeWriteSlot e).pending = s.pending := by unfold State.freeWriteSlot; split <;> rfl
@[simp] theorem State.freeWriteSlot_now (s : State) (e : Entry) : (s.freeWriteSlot e).now = s.now := by unfold State.freeWriteSlot; split <;> rfl
@[simp] theorem State.freeWriteSlot_draws (s : State) (e : Entry) : (s.freeWriteSlot e).draws = s.draws := by unfold State.freeWriteSlot; split <;> rfl
@[simp] theorem State.freeWriteSlot_rst (s : State) (e : Entry) : (s.freeWriteSlot e).rst = s.rst := by unfold State.freeWriteSlot; split <;> rfl
@[simp] theorem State.freeWriteSlot_laneSignal (s : State) (e : Entry) : (s.freeWriteSlot e).laneSignal = s.laneSignal := by unfold State.freeWriteSlot; split <;> rfl
@[simp] theorem State.freeWriteSlot_txLane (s : State) (e : Entry) : (s.freeWriteSlot e).txLane = s.txLane := by unfold State.freeWriteSlot; split <;> rfl
@[simp] theorem State.freeWriteSlot_link (s : State) (e : Entry) : (s.freeWriteSlot e).link = s.link := by unfold State.freeWriteSlot; split <;> rfl
@[simp] theorem State.freeWriteSlot_sched (s : State) (e : Entry) : (s.freeWriteSlot e).sched = s.sched := by unfold State.freeWriteSlot; split <;> rfl
@[simp] theorem State.freeWriteSlot_port (s : State) (e : Entry) : (s.freeWriteSlot e).port = s.port := by unfold State.freeWriteSlot; split <;> rfl
@[simp] theorem State.freeWriteSlot_array (s : State) (e : Entry) : (s.freeWriteSlot e).array = s.array := by unfold State.freeWriteSlot; split <;> rfl
@[simp] theorem State.freeWriteSlot_ren (s : State) (e : Entry) : (s.freeWriteSlot e).ren = s.ren := by unfold State.freeWriteSlot; split <;> rfl
@[simp] theorem State.freeWriteSlot_resp (s : State) (e : Entry) : (s.freeWriteSlot e).resp = s.resp := by unfold State.freeWriteSlot; split <;> rfl
@[simp] theorem State.freeWriteSlot_mgmt (s : State) (e : Entry) : (s.freeWriteSlot e).mgmt = s.mgmt := by unfold State.freeWriteSlot; split <;> rfl

/-! ### response unit -/

@[simp] theorem State.setSlot_pending (s : State) (i : Fin 32) (r : RespSlot) : (s.setSlot i r).pending = s.pending := rfl
@[simp] theorem State.setSlot_now (s : State) (i : Fin 32) (r : RespSlot) : (s.setSlot i r).now = s.now := rfl
@[simp] theorem State.setSlot_draws (s : State) (i : Fin 32) (r : RespSlot) : (s.setSlot i r).draws = s.draws := rfl
@[simp] theorem State.setSlot_rst (s : State) (i : Fin 32) (r : RespSlot) : (s.setSlot i r).rst = s.rst := rfl
@[simp] theorem State.setSlot_laneSignal (s : State) (i : Fin 32) (r : RespSlot) : (s.setSlot i r).laneSignal = s.laneSignal := rfl
@[simp] theorem State.setSlot_txLane (s : State) (i : Fin 32) (r : RespSlot) : (s.setSlot i r).txLane = s.txLane := rfl
@[simp] theorem State.setSlot_link (s : State) (i : Fin 32) (r : RespSlot) : (s.setSlot i r).link = s.link := rfl
@[simp] theorem State.setSlot_adm (s : State) (i : Fin 32) (r : RespSlot) : (s.setSlot i r).adm = s.adm := rfl
@[simp] theorem State.setSlot_sched (s : State) (i : Fin 32) (r : RespSlot) : (s.setSlot i r).sched = s.sched := rfl
@[simp] theorem State.setSlot_port (s : State) (i : Fin 32) (r : RespSlot) : (s.setSlot i r).port = s.port := rfl
@[simp] theorem State.setSlot_array (s : State) (i : Fin 32) (r : RespSlot) : (s.setSlot i r).array = s.array := rfl
@[simp] theorem State.setSlot_ren (s : State) (i : Fin 32) (r : RespSlot) : (s.setSlot i r).ren = s.ren := rfl
@[simp] theorem State.setSlot_mgmt (s : State) (i : Fin 32) (r : RespSlot) : (s.setSlot i r).mgmt = s.mgmt := rfl
@[simp] theorem State.setOrder_pending (s : State) (r : ReqNo) (l : List Place) : (s.setOrder r l).pending = s.pending := rfl
@[simp] theorem State.setOrder_now (s : State) (r : ReqNo) (l : List Place) : (s.setOrder r l).now = s.now := rfl
@[simp] theorem State.setOrder_draws (s : State) (r : ReqNo) (l : List Place) : (s.setOrder r l).draws = s.draws := rfl
@[simp] theorem State.setOrder_rst (s : State) (r : ReqNo) (l : List Place) : (s.setOrder r l).rst = s.rst := rfl
@[simp] theorem State.setOrder_laneSignal (s : State) (r : ReqNo) (l : List Place) : (s.setOrder r l).laneSignal = s.laneSignal := rfl
@[simp] theorem State.setOrder_txLane (s : State) (r : ReqNo) (l : List Place) : (s.setOrder r l).txLane = s.txLane := rfl
@[simp] theorem State.setOrder_link (s : State) (r : ReqNo) (l : List Place) : (s.setOrder r l).link = s.link := rfl
@[simp] theorem State.setOrder_adm (s : State) (r : ReqNo) (l : List Place) : (s.setOrder r l).adm = s.adm := rfl
@[simp] theorem State.setOrder_sched (s : State) (r : ReqNo) (l : List Place) : (s.setOrder r l).sched = s.sched := rfl
@[simp] theorem State.setOrder_port (s : State) (r : ReqNo) (l : List Place) : (s.setOrder r l).port = s.port := rfl
@[simp] theorem State.setOrder_array (s : State) (r : ReqNo) (l : List Place) : (s.setOrder r l).array = s.array := rfl
@[simp] theorem State.setOrder_ren (s : State) (r : ReqNo) (l : List Place) : (s.setOrder r l).ren = s.ren := rfl
@[simp] theorem State.setOrder_mgmt (s : State) (r : ReqNo) (l : List Place) : (s.setOrder r l).mgmt = s.mgmt := rfl
@[simp] theorem State.readyPlace_pending (s : State) (r : ReqNo) (tag : Byte) (st : PlaceState) : (s.readyPlace r tag st).pending = s.pending := rfl
@[simp] theorem State.readyPlace_now (s : State) (r : ReqNo) (tag : Byte) (st : PlaceState) : (s.readyPlace r tag st).now = s.now := rfl
@[simp] theorem State.readyPlace_draws (s : State) (r : ReqNo) (tag : Byte) (st : PlaceState) : (s.readyPlace r tag st).draws = s.draws := rfl
@[simp] theorem State.readyPlace_rst (s : State) (r : ReqNo) (tag : Byte) (st : PlaceState) : (s.readyPlace r tag st).rst = s.rst := rfl
@[simp] theorem State.readyPlace_laneSignal (s : State) (r : ReqNo) (tag : Byte) (st : PlaceState) : (s.readyPlace r tag st).laneSignal = s.laneSignal := rfl
@[simp] theorem State.readyPlace_txLane (s : State) (r : ReqNo) (tag : Byte) (st : PlaceState) : (s.readyPlace r tag st).txLane = s.txLane := rfl
@[simp] theorem State.readyPlace_link (s : State) (r : ReqNo) (tag : Byte) (st : PlaceState) : (s.readyPlace r tag st).link = s.link := rfl
@[simp] theorem State.readyPlace_adm (s : State) (r : ReqNo) (tag : Byte) (st : PlaceState) : (s.readyPlace r tag st).adm = s.adm := rfl
@[simp] theorem State.readyPlace_sched (s : State) (r : ReqNo) (tag : Byte) (st : PlaceState) : (s.readyPlace r tag st).sched = s.sched := rfl
@[simp] theorem State.readyPlace_port (s : State) (r : ReqNo) (tag : Byte) (st : PlaceState) : (s.readyPlace r tag st).port = s.port := rfl
@[simp] theorem State.readyPlace_array (s : State) (r : ReqNo) (tag : Byte) (st : PlaceState) : (s.readyPlace r tag st).array = s.array := rfl
@[simp] theorem State.readyPlace_ren (s : State) (r : ReqNo) (tag : Byte) (st : PlaceState) : (s.readyPlace r tag st).ren = s.ren := rfl
@[simp] theorem State.readyPlace_mgmt (s : State) (r : ReqNo) (tag : Byte) (st : PlaceState) : (s.readyPlace r tag st).mgmt = s.mgmt := rfl
@[simp] theorem State.setSlot_orders (s : State) (i : Fin 32) (r : RespSlot) : (s.setSlot i r).resp.orders = s.resp.orders := rfl
@[simp] theorem State.setOrder_slots (s : State) (r : ReqNo) (l : List Place) : (s.setOrder r l).resp.slots = s.resp.slots := rfl
@[simp] theorem State.readyPlace_slots (s : State) (r : ReqNo) (tag : Byte) (st : PlaceState) :
    (s.readyPlace r tag st).resp.slots = s.resp.slots := rfl

/-! ### link, mode and part state -/

@[simp] theorem State.setLink_pending (s : State) (l : Link) : (s.setLink l).pending = s.pending := rfl
@[simp] theorem State.setLink_now (s : State) (l : Link) : (s.setLink l).now = s.now := rfl
@[simp] theorem State.setLink_draws (s : State) (l : Link) : (s.setLink l).draws = s.draws := rfl
@[simp] theorem State.setLink_rst (s : State) (l : Link) : (s.setLink l).rst = s.rst := rfl
@[simp] theorem State.setLink_laneSignal (s : State) (l : Link) : (s.setLink l).laneSignal = s.laneSignal := rfl
@[simp] theorem State.setLink_txLane (s : State) (l : Link) : (s.setLink l).txLane = s.txLane := rfl
@[simp] theorem State.setLink_adm (s : State) (l : Link) : (s.setLink l).adm = s.adm := rfl
@[simp] theorem State.setLink_sched (s : State) (l : Link) : (s.setLink l).sched = s.sched := rfl
@[simp] theorem State.setLink_port (s : State) (l : Link) : (s.setLink l).port = s.port := rfl
@[simp] theorem State.setLink_array (s : State) (l : Link) : (s.setLink l).array = s.array := rfl
@[simp] theorem State.setLink_ren (s : State) (l : Link) : (s.setLink l).ren = s.ren := rfl
@[simp] theorem State.setLink_resp (s : State) (l : Link) : (s.setLink l).resp = s.resp := rfl
@[simp] theorem State.setLink_mgmt (s : State) (l : Link) : (s.setLink l).mgmt = s.mgmt := rfl
@[simp] theorem State.setLink_link (s : State) (l : Link) : (s.setLink l).link = l := rfl
@[simp] theorem State.setMode_pending (s : State) (m : PortMode) : (s.setMode m).pending = s.pending := rfl
@[simp] theorem State.setMode_now (s : State) (m : PortMode) : (s.setMode m).now = s.now := rfl
@[simp] theorem State.setMode_draws (s : State) (m : PortMode) : (s.setMode m).draws = s.draws := rfl
@[simp] theorem State.setMode_rst (s : State) (m : PortMode) : (s.setMode m).rst = s.rst := rfl
@[simp] theorem State.setMode_laneSignal (s : State) (m : PortMode) : (s.setMode m).laneSignal = s.laneSignal := rfl
@[simp] theorem State.setMode_txLane (s : State) (m : PortMode) : (s.setMode m).txLane = s.txLane := rfl
@[simp] theorem State.setMode_link (s : State) (m : PortMode) : (s.setMode m).link = s.link := rfl
@[simp] theorem State.setMode_adm (s : State) (m : PortMode) : (s.setMode m).adm = s.adm := rfl
@[simp] theorem State.setMode_sched (s : State) (m : PortMode) : (s.setMode m).sched = s.sched := rfl
@[simp] theorem State.setMode_array (s : State) (m : PortMode) : (s.setMode m).array = s.array := rfl
@[simp] theorem State.setMode_ren (s : State) (m : PortMode) : (s.setMode m).ren = s.ren := rfl
@[simp] theorem State.setMode_resp (s : State) (m : PortMode) : (s.setMode m).resp = s.resp := rfl
@[simp] theorem State.setMode_mgmt (s : State) (m : PortMode) : (s.setMode m).mgmt = s.mgmt := rfl
@[simp] theorem State.setMode_banks (s : State) (m : PortMode) : (s.setMode m).port.banks = s.port.banks := rfl
@[simp] theorem State.setPart_pending (s : State) (p : Part) : (s.setPart p).pending = s.pending := rfl
@[simp] theorem State.setPart_now (s : State) (p : Part) : (s.setPart p).now = s.now := rfl
@[simp] theorem State.setPart_draws (s : State) (p : Part) : (s.setPart p).draws = s.draws := rfl
@[simp] theorem State.setPart_rst (s : State) (p : Part) : (s.setPart p).rst = s.rst := rfl
@[simp] theorem State.setPart_laneSignal (s : State) (p : Part) : (s.setPart p).laneSignal = s.laneSignal := rfl
@[simp] theorem State.setPart_txLane (s : State) (p : Part) : (s.setPart p).txLane = s.txLane := rfl
@[simp] theorem State.setPart_link (s : State) (p : Part) : (s.setPart p).link = s.link := rfl
@[simp] theorem State.setPart_adm (s : State) (p : Part) : (s.setPart p).adm = s.adm := rfl
@[simp] theorem State.setPart_sched (s : State) (p : Part) : (s.setPart p).sched = s.sched := rfl
@[simp] theorem State.setPart_port (s : State) (p : Part) : (s.setPart p).port = s.port := rfl
@[simp] theorem State.setPart_array (s : State) (p : Part) : (s.setPart p).array = s.array := rfl
@[simp] theorem State.setPart_ren (s : State) (p : Part) : (s.setPart p).ren = s.ren := rfl
@[simp] theorem State.setPart_resp (s : State) (p : Part) : (s.setPart p).resp = s.resp := rfl
@[simp] theorem State.setPart_part (s : State) (p : Part) : (s.setPart p).mgmt.part = p := rfl
@[simp] theorem State.enterRun_pending (s : State)  : (s.enterRun).pending = s.pending := rfl
@[simp] theorem State.enterRun_now (s : State)  : (s.enterRun).now = s.now := rfl
@[simp] theorem State.enterRun_draws (s : State)  : (s.enterRun).draws = s.draws := rfl
@[simp] theorem State.enterRun_rst (s : State)  : (s.enterRun).rst = s.rst := rfl
@[simp] theorem State.enterRun_laneSignal (s : State)  : (s.enterRun).laneSignal = s.laneSignal := rfl
@[simp] theorem State.enterRun_txLane (s : State)  : (s.enterRun).txLane = s.txLane := rfl
@[simp] theorem State.enterRun_link (s : State)  : (s.enterRun).link = s.link := rfl
@[simp] theorem State.enterRun_adm (s : State)  : (s.enterRun).adm = s.adm := rfl
@[simp] theorem State.enterRun_sched (s : State)  : (s.enterRun).sched = s.sched := rfl
@[simp] theorem State.enterRun_array (s : State)  : (s.enterRun).array = s.array := rfl
@[simp] theorem State.enterRun_ren (s : State)  : (s.enterRun).ren = s.ren := rfl
@[simp] theorem State.enterRun_resp (s : State)  : (s.enterRun).resp = s.resp := rfl

/-! ### faults, counters and notices (R183 to R188) -/

@[simp] theorem State.count_pending (s : State) (i : Fin 11) : (s.count i).pending = s.pending := rfl
@[simp] theorem State.count_now (s : State) (i : Fin 11) : (s.count i).now = s.now := rfl
@[simp] theorem State.count_draws (s : State) (i : Fin 11) : (s.count i).draws = s.draws := rfl
@[simp] theorem State.count_rst (s : State) (i : Fin 11) : (s.count i).rst = s.rst := rfl
@[simp] theorem State.count_laneSignal (s : State) (i : Fin 11) : (s.count i).laneSignal = s.laneSignal := rfl
@[simp] theorem State.count_txLane (s : State) (i : Fin 11) : (s.count i).txLane = s.txLane := rfl
@[simp] theorem State.count_link (s : State) (i : Fin 11) : (s.count i).link = s.link := rfl
@[simp] theorem State.count_adm (s : State) (i : Fin 11) : (s.count i).adm = s.adm := rfl
@[simp] theorem State.count_sched (s : State) (i : Fin 11) : (s.count i).sched = s.sched := rfl
@[simp] theorem State.count_port (s : State) (i : Fin 11) : (s.count i).port = s.port := rfl
@[simp] theorem State.count_array (s : State) (i : Fin 11) : (s.count i).array = s.array := rfl
@[simp] theorem State.count_ren (s : State) (i : Fin 11) : (s.count i).ren = s.ren := rfl
@[simp] theorem State.count_resp (s : State) (i : Fin 11) : (s.count i).resp = s.resp := rfl
@[simp] theorem State.dropNotice_pending (s : State)  : (s.dropNotice).pending = s.pending := rfl
@[simp] theorem State.dropNotice_now (s : State)  : (s.dropNotice).now = s.now := rfl
@[simp] theorem State.dropNotice_draws (s : State)  : (s.dropNotice).draws = s.draws := rfl
@[simp] theorem State.dropNotice_rst (s : State)  : (s.dropNotice).rst = s.rst := rfl
@[simp] theorem State.dropNotice_laneSignal (s : State)  : (s.dropNotice).laneSignal = s.laneSignal := rfl
@[simp] theorem State.dropNotice_txLane (s : State)  : (s.dropNotice).txLane = s.txLane := rfl
@[simp] theorem State.dropNotice_link (s : State)  : (s.dropNotice).link = s.link := rfl
@[simp] theorem State.dropNotice_adm (s : State)  : (s.dropNotice).adm = s.adm := rfl
@[simp] theorem State.dropNotice_sched (s : State)  : (s.dropNotice).sched = s.sched := rfl
@[simp] theorem State.dropNotice_port (s : State)  : (s.dropNotice).port = s.port := rfl
@[simp] theorem State.dropNotice_array (s : State)  : (s.dropNotice).array = s.array := rfl
@[simp] theorem State.dropNotice_ren (s : State)  : (s.dropNotice).ren = s.ren := rfl
@[simp] theorem State.dropNotice_resp (s : State)  : (s.dropNotice).resp = s.resp := rfl
@[simp] theorem State.offerNotice_pending (s : State) (r : Report) : (s.offerNotice r).pending = s.pending := by unfold State.offerNotice; split <;> first | (split <;> rfl) | rfl
@[simp] theorem State.offerNotice_now (s : State) (r : Report) : (s.offerNotice r).now = s.now := by unfold State.offerNotice; split <;> first | (split <;> rfl) | rfl
@[simp] theorem State.offerNotice_draws (s : State) (r : Report) : (s.offerNotice r).draws = s.draws := by unfold State.offerNotice; split <;> first | (split <;> rfl) | rfl
@[simp] theorem State.offerNotice_rst (s : State) (r : Report) : (s.offerNotice r).rst = s.rst := by unfold State.offerNotice; split <;> first | (split <;> rfl) | rfl
@[simp] theorem State.offerNotice_laneSignal (s : State) (r : Report) : (s.offerNotice r).laneSignal = s.laneSignal := by unfold State.offerNotice; split <;> first | (split <;> rfl) | rfl
@[simp] theorem State.offerNotice_txLane (s : State) (r : Report) : (s.offerNotice r).txLane = s.txLane := by unfold State.offerNotice; split <;> first | (split <;> rfl) | rfl
@[simp] theorem State.offerNotice_link (s : State) (r : Report) : (s.offerNotice r).link = s.link := by unfold State.offerNotice; split <;> first | (split <;> rfl) | rfl
@[simp] theorem State.offerNotice_adm (s : State) (r : Report) : (s.offerNotice r).adm = s.adm := by unfold State.offerNotice; split <;> first | (split <;> rfl) | rfl
@[simp] theorem State.offerNotice_sched (s : State) (r : Report) : (s.offerNotice r).sched = s.sched := by unfold State.offerNotice; split <;> first | (split <;> rfl) | rfl
@[simp] theorem State.offerNotice_port (s : State) (r : Report) : (s.offerNotice r).port = s.port := by unfold State.offerNotice; split <;> first | (split <;> rfl) | rfl
@[simp] theorem State.offerNotice_array (s : State) (r : Report) : (s.offerNotice r).array = s.array := by unfold State.offerNotice; split <;> first | (split <;> rfl) | rfl
@[simp] theorem State.offerNotice_ren (s : State) (r : Report) : (s.offerNotice r).ren = s.ren := by unfold State.offerNotice; split <;> first | (split <;> rfl) | rfl
@[simp] theorem State.offerNotice_resp (s : State) (r : Report) : (s.offerNotice r).resp = s.resp := by unfold State.offerNotice; split <;> first | (split <;> rfl) | rfl
@[simp] theorem State.report_pending (s : State) (r : Report) : (s.report r).pending = s.pending := by simp [State.report]
@[simp] theorem State.report_now (s : State) (r : Report) : (s.report r).now = s.now := by simp [State.report]
@[simp] theorem State.report_draws (s : State) (r : Report) : (s.report r).draws = s.draws := by simp [State.report]
@[simp] theorem State.report_rst (s : State) (r : Report) : (s.report r).rst = s.rst := by simp [State.report]
@[simp] theorem State.report_laneSignal (s : State) (r : Report) : (s.report r).laneSignal = s.laneSignal := by simp [State.report]
@[simp] theorem State.report_txLane (s : State) (r : Report) : (s.report r).txLane = s.txLane := by simp [State.report]
@[simp] theorem State.report_link (s : State) (r : Report) : (s.report r).link = s.link := by simp [State.report]
@[simp] theorem State.report_adm (s : State) (r : Report) : (s.report r).adm = s.adm := by simp [State.report]
@[simp] theorem State.report_sched (s : State) (r : Report) : (s.report r).sched = s.sched := by simp [State.report]
@[simp] theorem State.report_port (s : State) (r : Report) : (s.report r).port = s.port := by simp [State.report]
@[simp] theorem State.report_array (s : State) (r : Report) : (s.report r).array = s.array := by simp [State.report]
@[simp] theorem State.report_ren (s : State) (r : Report) : (s.report r).ren = s.ren := by simp [State.report]
@[simp] theorem State.report_resp (s : State) (r : Report) : (s.report r).resp = s.resp := by simp [State.report]
@[simp] theorem State.report_mgmt_queue (s : State) (r : Report) : (s.report r).mgmt.queue = s.mgmt.queue := by
  unfold State.report State.offerNotice; split <;> first | (split <;> rfl) | rfl
@[simp] theorem State.report_mgmt_replies (s : State) (r : Report) : (s.report r).mgmt.replies = s.mgmt.replies := by
  unfold State.report State.offerNotice; split <;> first | (split <;> rfl) | rfl
@[simp] theorem State.report_mgmt_busyHold (s : State) (r : Report) : (s.report r).mgmt.busyHold = s.mgmt.busyHold := by
  unfold State.report State.offerNotice; split <;> first | (split <;> rfl) | rfl
@[simp] theorem State.report_mgmt_active (s : State) (r : Report) : (s.report r).mgmt.active = s.mgmt.active := by
  unfold State.report State.offerNotice; split <;> first | (split <;> rfl) | rfl
@[simp] theorem State.report_mgmt_staged (s : State) (r : Report) : (s.report r).mgmt.staged = s.mgmt.staged := by
  unfold State.report State.offerNotice; split <;> first | (split <;> rfl) | rfl
@[simp] theorem State.report_mgmt_notice (s : State) (r : Report) : (s.report r).mgmt.notice = s.mgmt.notice := by
  unfold State.report State.offerNotice; split <;> first | (split <;> rfl) | rfl
@[simp] theorem State.report_mgmt_commit (s : State) (r : Report) : (s.report r).mgmt.commit = s.mgmt.commit := by
  unfold State.report State.offerNotice; split <;> first | (split <;> rfl) | rfl
@[simp] theorem State.report_mgmt_status (s : State) (r : Report) : (s.report r).mgmt.status = s.mgmt.status := by
  unfold State.report State.offerNotice; split <;> first | (split <;> rfl) | rfl
@[simp] theorem State.report_mgmt_part (s : State) (r : Report) : (s.report r).mgmt.part = s.mgmt.part := by
  unfold State.report State.offerNotice; split <;> first | (split <;> rfl) | rfl
@[simp] theorem State.report_mgmt_resetTaken (s : State) (r : Report) : (s.report r).mgmt.resetTaken = s.mgmt.resetTaken := by
  unfold State.report State.offerNotice; split <;> first | (split <;> rfl) | rfl

/-! ### replies (R155) -/

@[simp] theorem State.reply_pending (s : State) (e : Echo) (st : MStatus) (v : List Byte) : (s.reply e st v).pending = s.pending := rfl
@[simp] theorem State.reply_now (s : State) (e : Echo) (st : MStatus) (v : List Byte) : (s.reply e st v).now = s.now := rfl
@[simp] theorem State.reply_draws (s : State) (e : Echo) (st : MStatus) (v : List Byte) : (s.reply e st v).draws = s.draws := rfl
@[simp] theorem State.reply_rst (s : State) (e : Echo) (st : MStatus) (v : List Byte) : (s.reply e st v).rst = s.rst := rfl
@[simp] theorem State.reply_laneSignal (s : State) (e : Echo) (st : MStatus) (v : List Byte) : (s.reply e st v).laneSignal = s.laneSignal := rfl
@[simp] theorem State.reply_txLane (s : State) (e : Echo) (st : MStatus) (v : List Byte) : (s.reply e st v).txLane = s.txLane := rfl
@[simp] theorem State.reply_link (s : State) (e : Echo) (st : MStatus) (v : List Byte) : (s.reply e st v).link = s.link := rfl
@[simp] theorem State.reply_adm (s : State) (e : Echo) (st : MStatus) (v : List Byte) : (s.reply e st v).adm = s.adm := rfl
@[simp] theorem State.reply_sched (s : State) (e : Echo) (st : MStatus) (v : List Byte) : (s.reply e st v).sched = s.sched := rfl
@[simp] theorem State.reply_port (s : State) (e : Echo) (st : MStatus) (v : List Byte) : (s.reply e st v).port = s.port := rfl
@[simp] theorem State.reply_array (s : State) (e : Echo) (st : MStatus) (v : List Byte) : (s.reply e st v).array = s.array := rfl
@[simp] theorem State.reply_ren (s : State) (e : Echo) (st : MStatus) (v : List Byte) : (s.reply e st v).ren = s.ren := rfl
@[simp] theorem State.reply_resp (s : State) (e : Echo) (st : MStatus) (v : List Byte) : (s.reply e st v).resp = s.resp := rfl
@[simp] theorem State.reply_replies (s : State) (e : Echo) (st : MStatus) (v : List Byte) :
    (s.reply e st v).mgmt.replies = s.mgmt.replies ++ [.manageReply e st .none 0 v] := rfl
@[simp] theorem State.reply_mgmt_queue (s : State) (e : Echo) (st : MStatus) (v : List Byte) : (s.reply e st v).mgmt.queue = s.mgmt.queue := rfl
@[simp] theorem State.reply_mgmt_busyHold (s : State) (e : Echo) (st : MStatus) (v : List Byte) : (s.reply e st v).mgmt.busyHold = s.mgmt.busyHold := rfl
@[simp] theorem State.reply_mgmt_active (s : State) (e : Echo) (st : MStatus) (v : List Byte) : (s.reply e st v).mgmt.active = s.mgmt.active := rfl
@[simp] theorem State.reply_mgmt_staged (s : State) (e : Echo) (st : MStatus) (v : List Byte) : (s.reply e st v).mgmt.staged = s.mgmt.staged := rfl
@[simp] theorem State.reply_mgmt_notice (s : State) (e : Echo) (st : MStatus) (v : List Byte) : (s.reply e st v).mgmt.notice = s.mgmt.notice := rfl
@[simp] theorem State.reply_mgmt_commit (s : State) (e : Echo) (st : MStatus) (v : List Byte) : (s.reply e st v).mgmt.commit = s.mgmt.commit := rfl
@[simp] theorem State.reply_mgmt_status (s : State) (e : Echo) (st : MStatus) (v : List Byte) : (s.reply e st v).mgmt.status = s.mgmt.status := rfl
@[simp] theorem State.reply_mgmt_part (s : State) (e : Echo) (st : MStatus) (v : List Byte) : (s.reply e st v).mgmt.part = s.mgmt.part := rfl
@[simp] theorem State.reply_mgmt_resetTaken (s : State) (e : Echo) (st : MStatus) (v : List Byte) : (s.reply e st v).mgmt.resetTaken = s.mgmt.resetTaken := rfl
@[simp] theorem State.reply_mgmt_counters (s : State) (e : Echo) (st : MStatus) (v : List Byte) : (s.reply e st v).mgmt.counters = s.mgmt.counters := rfl
@[simp] theorem State.reply_mgmt_notices (s : State) (e : Echo) (st : MStatus) (v : List Byte) : (s.reply e st v).mgmt.notices = s.mgmt.notices := rfl
@[simp] theorem State.reply_mgmt_nextNotice (s : State) (e : Echo) (st : MStatus) (v : List Byte) : (s.reply e st v).mgmt.nextNotice = s.mgmt.nextNotice := rfl
@[simp] theorem State.reply_mgmt_dropped (s : State) (e : Echo) (st : MStatus) (v : List Byte) : (s.reply e st v).mgmt.dropped = s.mgmt.dropped := rfl

/-! ### stored chunks -/

@[simp] theorem State.storeChunk_pending (s : State) (b : BankNo) (p k : Nat) (c : Chunk) : (s.storeChunk b p k c).pending = s.pending := rfl
@[simp] theorem State.storeChunk_now (s : State) (b : BankNo) (p k : Nat) (c : Chunk) : (s.storeChunk b p k c).now = s.now := rfl
@[simp] theorem State.storeChunk_draws (s : State) (b : BankNo) (p k : Nat) (c : Chunk) : (s.storeChunk b p k c).draws = s.draws := rfl
@[simp] theorem State.storeChunk_rst (s : State) (b : BankNo) (p k : Nat) (c : Chunk) : (s.storeChunk b p k c).rst = s.rst := rfl
@[simp] theorem State.storeChunk_laneSignal (s : State) (b : BankNo) (p k : Nat) (c : Chunk) : (s.storeChunk b p k c).laneSignal = s.laneSignal := rfl
@[simp] theorem State.storeChunk_txLane (s : State) (b : BankNo) (p k : Nat) (c : Chunk) : (s.storeChunk b p k c).txLane = s.txLane := rfl
@[simp] theorem State.storeChunk_link (s : State) (b : BankNo) (p k : Nat) (c : Chunk) : (s.storeChunk b p k c).link = s.link := rfl
@[simp] theorem State.storeChunk_adm (s : State) (b : BankNo) (p k : Nat) (c : Chunk) : (s.storeChunk b p k c).adm = s.adm := rfl
@[simp] theorem State.storeChunk_sched (s : State) (b : BankNo) (p k : Nat) (c : Chunk) : (s.storeChunk b p k c).sched = s.sched := rfl
@[simp] theorem State.storeChunk_port (s : State) (b : BankNo) (p k : Nat) (c : Chunk) : (s.storeChunk b p k c).port = s.port := rfl
@[simp] theorem State.storeChunk_ren (s : State) (b : BankNo) (p k : Nat) (c : Chunk) : (s.storeChunk b p k c).ren = s.ren := rfl
@[simp] theorem State.storeChunk_resp (s : State) (b : BankNo) (p k : Nat) (c : Chunk) : (s.storeChunk b p k c).resp = s.resp := rfl
@[simp] theorem State.storeChunk_mgmt (s : State) (b : BankNo) (p k : Nat) (c : Chunk) : (s.storeChunk b p k c).mgmt = s.mgmt := rfl
@[simp] theorem State.storeChunk_array (s : State) (b : BankNo) (p k : Nat) (c : Chunk) :
    (s.storeChunk b p k c).array = s.array.put (chunkKey b p k) c := rfl

end Sys2Proof.Machine
end

