-- ==== Sys2Proof/Laws/Settle.lean ====
section
/-! SUPPORT. What an issue, the issue gate, the mode changes of an event and `settle` leave unchanged, and the end of the
gate's choosing (R30). -/

namespace Sys2Proof.Machine

/-! ### one issue -/

theorem State.issueOpen_frame (s : State) (b : BankNo) (e : Entry) :
    s.issueOpen b e = { s with port := (s.issueOpen b e).port } := rfl

theorem State.issueClose_frame (s : State) (b : BankNo) :
    s.issueClose b = { s with port := (s.issueClose b).port, sched := (s.issueClose b).sched } := rfl

theorem State.issueRenew_frame (s : State) (b : BankNo) : s.issueRenew b = { s with port := (s.issueRenew b).port } := rfl

theorem State.reserveSlot_frame (s : State) (e : Entry) :
    s.reserveSlot e = { s with sched := (s.reserveSlot e).sched, resp := { s.resp with slots := (s.reserveSlot e).resp.slots } } := by
  unfold State.reserveSlot
  split
  · split <;> rfl
  · rfl

theorem State.issueAccess_frame (s : State) (b : BankNo) (e : Entry) :
    s.issueAccess b e =
      { s with port := (s.issueAccess b e).port, sched := (s.issueAccess b e).sched
               resp := { s.resp with slots := (s.issueAccess b e).resp.slots } } := by
  unfold State.issueAccess
  rw [State.reserveSlot_frame]
  rfl

/-- An issue changes the array port, the request scheduler and the response slots, and nothing else (R31). -/
theorem State.issue_frame (s : State) (c : Cand) :
    s.issue c =
      { s with port := (s.issue c).port, sched := (s.issue c).sched
               resp := { s.resp with slots := (s.issue c).resp.slots } } := by
  unfold State.issue
  split
  · rw [State.issueOpen_frame]
  · rw [State.issueAccess_frame]
  · rw [State.issueClose_frame]
  · rw [State.issueRenew_frame]

/-- The gate changes the array port, the request scheduler and the response slots, and nothing else. -/
theorem gate_frame (n : Nat) (s : State) :
    gate n s =
      { s with port := (gate n s).port, sched := (gate n s).sched
               resp := { s.resp with slots := (gate n s).resp.slots } } := by
  induction n generalizing s with
  | zero => rfl
  | succ n ih =>
    unfold gate
    split
    · rw [ih, State.issue_frame]
    · rfl

@[simp] theorem gate_pending (n : Nat) (s : State) : (gate n s).pending = s.pending := by rw [gate_frame]
@[simp] theorem gate_now (n : Nat) (s : State) : (gate n s).now = s.now := by rw [gate_frame]
@[simp] theorem gate_draws (n : Nat) (s : State) : (gate n s).draws = s.draws := by rw [gate_frame]
@[simp] theorem gate_rst (n : Nat) (s : State) : (gate n s).rst = s.rst := by rw [gate_frame]
@[simp] theorem gate_laneSignal (n : Nat) (s : State) : (gate n s).laneSignal = s.laneSignal := by rw [gate_frame]
@[simp] theorem gate_txLane (n : Nat) (s : State) : (gate n s).txLane = s.txLane := by rw [gate_frame]
@[simp] theorem gate_link (n : Nat) (s : State) : (gate n s).link = s.link := by rw [gate_frame]
@[simp] theorem gate_adm (n : Nat) (s : State) : (gate n s).adm = s.adm := by rw [gate_frame]
@[simp] theorem gate_array (n : Nat) (s : State) : (gate n s).array = s.array := by rw [gate_frame]
@[simp] theorem gate_ren (n : Nat) (s : State) : (gate n s).ren = s.ren := by rw [gate_frame]
@[simp] theorem gate_mgmt (n : Nat) (s : State) : (gate n s).mgmt = s.mgmt := by rw [gate_frame]
@[simp] theorem gate_orders (n : Nat) (s : State) : (gate n s).resp.orders = s.resp.orders := by rw [gate_frame]

/-! ### what the gate issues (R28, R30) -/

theorem best_mem {l : List Cand} {c : Cand} (h : best l = some c) : c ∈ l := by
  induction l generalizing c with
  | nil => simp [best] at h
  | cons a l ih =>
    unfold best at h
    split at h
    · rename_i d hd
      split at h
      · cases h
        exact List.mem_cons_of_mem _ (ih hd)
      · cases h
        exact List.mem_cons_self
    · cases h
      exact List.mem_cons_self

/-- The gate issues a want that its unit presents and that is permitted. -/
theorem State.choice_permitted {s : State} {c : Cand} (h : s.choice = some c) :
    c ∈ s.cands ∧ s.permitted c = true := List.mem_filter.1 (best_mem h)

/-- A want is permitted only on a CLOSED or OPEN bank (R28). -/
theorem State.permitted_state {s : State} {c : Cand} (h : s.permitted c = true) :
    (s.bank c.bank).state = .closed ∨ (s.bank c.bank).state = .opened := by
  unfold State.permitted at h
  split at h <;>
    simp [State.openPermitted, State.accessPermittedButTurn, State.closePermitted, State.renewPermitted] at h <;>
    simp [h]

@[simp] theorem State.reserveSlot_bank (s : State) (e : Entry) (b : BankNo) : (s.reserveSlot e).bank b = s.bank b := by
  unfold State.reserveSlot
  split
  · split <;> rfl
  · rfl

/-- The bank state an issue leaves (section 1.3). -/
def Op.after : Op → BankState
  | .openFor _ => .opening
  | .access _ => .accessing
  | .close => .closing
  | .renew => .renewing

/-- An issue takes its bank to the state of its operation, and leaves every other bank's record as it was. -/
theorem State.issue_bank (s : State) (c : Cand) :
    ((s.issue c).bank c.bank).state = c.op.after ∧ ∀ b, b ≠ c.bank → (s.issue c).bank b = s.bank b := by
  unfold State.issue
  split <;> rename_i h <;> rw [h]
  · exact ⟨by simp [State.issueOpen, State.bank, State.setBank, Op.after], fun b hb => by
      simp [State.issueOpen, State.bank, State.setBank, Table.get_set_ne _ _ hb]⟩
  · exact ⟨by
      simp only [State.issueAccess, State.reserveSlot_bank]
      simp [State.bank, State.setBank, State.setList, State.updEntry, Op.after], fun b hb => by
      simp only [State.issueAccess, State.reserveSlot_bank]
      simp [State.bank, State.setBank, State.setList, State.updEntry, Table.get_set_ne _ _ hb]⟩
  · exact ⟨by simp [State.issueClose, State.bank, State.setBank, Op.after], fun b hb => by
      simp [State.issueClose, State.bank, State.setBank, Table.get_set_ne _ _ hb]⟩
  · exact ⟨by simp [State.issueRenew, State.bank, State.setBank, Op.after], fun b hb => by
      simp [State.issueRenew, State.bank, State.setBank, Table.get_set_ne _ _ hb]⟩

/-! ### the pending list under an issue, the gate and an event's end -/

theorem State.ageOlder_snapshot (s : State) (id : Nat) (l : List Entry) :
    (s.ageOlder id l).map Entry.snapshot = l.map Entry.snapshot := by
  induction l with
  | nil => rfl
  | cons e es ih =>
    unfold State.ageOlder
    split
    · rfl
    · simp only [List.map_cons, ih, List.cons.injEq, and_true]
      split
      · unfold State.age
        split <;> rfl
      · rfl

theorem State.updEntry_snapshot (s : State) (id : Nat) (f : Entry → Entry) (h : ∀ e, (f e).snapshot = e.snapshot) :
    (s.updEntry id f).sched.list.map Entry.snapshot = s.sched.list.map Entry.snapshot := by
  simp only [State.updEntry, State.setList_list, List.map_map]
  refine List.map_congr_left fun e _ => ?_
  simp only [Function.comp_apply]
  split
  · exact h e
  · rfl

theorem State.reserveSlot_snapshot (s : State) (e : Entry) :
    (s.reserveSlot e).sched.list.map Entry.snapshot = s.sched.list.map Entry.snapshot := by
  unfold State.reserveSlot
  split
  · split
    · refine (State.updEntry_snapshot _ _ _ ?_).trans rfl
      exact fun _ => rfl
    · rfl
  · rfl

/-- An issue changes of the entries only what R69 lets change at an issue. -/
theorem State.issue_snapshot (s : State) (c : Cand) :
    (s.issue c).sched.list.map Entry.snapshot = s.sched.list.map Entry.snapshot := by
  unfold State.issue
  split
  · rfl
  · simp only [State.issueAccess]
    refine (State.reserveSlot_snapshot _ _).trans ((State.updEntry_snapshot _ _ _ ?_).trans ?_)
    · exact fun _ => rfl
    · rw [State.setList_list, State.ageOlder_snapshot]
      rfl
  · rfl
  · rfl

theorem gate_snapshot (n : Nat) (s : State) :
    (gate n s).sched.list.map Entry.snapshot = s.sched.list.map Entry.snapshot := by
  induction n generalizing s with
  | zero => rfl
  | succ n ih =>
    unfold gate
    split
    · rw [ih, State.issue_snapshot]
    · rfl

/-! ### the mode changes of an event -/

@[simp] theorem State.withdrawCommitHalt_pending (s : State) : s.withdrawCommitHalt.pending = s.pending := by
  unfold State.withdrawCommitHalt State.afterWithdrawal; split <;> first | (split <;> rfl) | rfl
@[simp] theorem State.commitReply_pending (s : State) (r : Option ReplyOwed) : (s.commitReply r).pending = s.pending := by
  unfold State.commitReply; split <;> rfl
@[simp] theorem State.commitPoint_pending (s : State) : s.commitPoint.pending = s.pending := by
  simp [State.commitPoint, State.applyCommit, Mgmt.atCommit]
@[simp] theorem State.listEmptyTest_pending (s : State) : s.listEmptyTest.pending = s.pending := by
  unfold State.listEmptyTest; split
  · dsimp only; split <;> split <;> rfl
  · rfl
@[simp] theorem State.haltedTest_pending (s : State) : s.haltedTest.pending = s.pending := by
  unfold State.haltedTest; split <;> rfl
@[simp] theorem State.commitTest_pending (s : State) : s.commitTest.pending = s.pending := by
  unfold State.commitTest; split
  · exact State.commitPoint_pending s
  · rfl
@[simp] theorem State.holdRequestTest_pending (s : State) : s.holdRequestTest.pending = s.pending := by
  unfold State.holdRequestTest; split <;> rfl
@[simp] theorem State.holdTest_pending (s : State) : s.holdTest.pending = s.pending := by
  unfold State.holdTest State.issueHold State.enterRetained; split
  · dsimp only; split <;> rfl
  · rfl
@[simp] theorem State.advance_pending (s : State) : s.advance.pending = s.pending := by
  simp [State.advance]
@[simp] theorem State.withdrawCommitHalt_now (s : State) : s.withdrawCommitHalt.now = s.now := by
  unfold State.withdrawCommitHalt State.afterWithdrawal; split <;> first | (split <;> rfl) | rfl
@[simp] theorem State.commitReply_now (s : State) (r : Option ReplyOwed) : (s.commitReply r).now = s.now := by
  unfold State.commitReply; split <;> rfl
@[simp] theorem State.commitPoint_now (s : State) : s.commitPoint.now = s.now := by
  simp [State.commitPoint, State.applyCommit, Mgmt.atCommit]
@[simp] theorem State.listEmptyTest_now (s : State) : s.listEmptyTest.now = s.now := by
  unfold State.listEmptyTest; split
  · dsimp only; split <;> split <;> rfl
  · rfl
@[simp] theorem State.haltedTest_now (s : State) : s.haltedTest.now = s.now := by
  unfold State.haltedTest; split <;> rfl
@[simp] theorem State.commitTest_now (s : State) : s.commitTest.now = s.now := by
  unfold State.commitTest; split
  · exact State.commitPoint_now s
  · rfl
@[simp] theorem State.holdRequestTest_now (s : State) : s.holdRequestTest.now = s.now := by
  unfold State.holdRequestTest; split <;> rfl
@[simp] theorem State.holdTest_now (s : State) : s.holdTest.now = s.now := by
  unfold State.holdTest State.issueHold State.enterRetained; split
  · dsimp only; split <;> rfl
  · rfl
@[simp] theorem State.advance_now (s : State) : s.advance.now = s.now := by
  simp [State.advance]
@[simp] theorem State.withdrawCommitHalt_draws (s : State) : s.withdrawCommitHalt.draws = s.draws := by
  unfold State.withdrawCommitHalt State.afterWithdrawal; split <;> first | (split <;> rfl) | rfl
@[simp] theorem State.commitReply_draws (s : State) (r : Option ReplyOwed) : (s.commitReply r).draws = s.draws := by
  unfold State.commitReply; split <;> rfl
@[simp] theorem State.commitPoint_draws (s : State) : s.commitPoint.draws = s.draws := by
  simp [State.commitPoint, State.applyCommit, Mgmt.atCommit]
@[simp] theorem State.listEmptyTest_draws (s : State) : s.listEmptyTest.draws = s.draws := by
  unfold State.listEmptyTest; split
  · dsimp only; split <;> split <;> rfl
  · rfl
@[simp] theorem State.haltedTest_draws (s : State) : s.haltedTest.draws = s.draws := by
  unfold State.haltedTest; split <;> rfl
@[simp] theorem State.commitTest_draws (s : State) : s.commitTest.draws = s.draws := by
  unfold State.commitTest; split
  · exact State.commitPoint_draws s
  · rfl
@[simp] theorem State.holdRequestTest_draws (s : State) : s.holdRequestTest.draws = s.draws := by
  unfold State.holdRequestTest; split <;> rfl
@[simp] theorem State.holdTest_draws (s : State) : s.holdTest.draws = s.draws := by
  unfold State.holdTest State.issueHold State.enterRetained; split
  · dsimp only; split <;> rfl
  · rfl
@[simp] theorem State.advance_draws (s : State) : s.advance.draws = s.draws := by
  simp [State.advance]
@[simp] theorem State.withdrawCommitHalt_rst (s : State) : s.withdrawCommitHalt.rst = s.rst := by
  unfold State.withdrawCommitHalt State.afterWithdrawal; split <;> first | (split <;> rfl) | rfl
@[simp] theorem State.commitReply_rst (s : State) (r : Option ReplyOwed) : (s.commitReply r).rst = s.rst := by
  unfold State.commitReply; split <;> rfl
@[simp] theorem State.commitPoint_rst (s : State) : s.commitPoint.rst = s.rst := by
  simp [State.commitPoint, State.applyCommit, Mgmt.atCommit]
@[simp] theorem State.listEmptyTest_rst (s : State) : s.listEmptyTest.rst = s.rst := by
  unfold State.listEmptyTest; split
  · dsimp only; split <;> split <;> rfl
  · rfl
@[simp] theorem State.haltedTest_rst (s : State) : s.haltedTest.rst = s.rst := by
  unfold State.haltedTest; split <;> rfl
@[simp] theorem State.commitTest_rst (s : State) : s.commitTest.rst = s.rst := by
  unfold State.commitTest; split
  · exact State.commitPoint_rst s
  · rfl
@[simp] theorem State.holdRequestTest_rst (s : State) : s.holdRequestTest.rst = s.rst := by
  unfold State.holdRequestTest; split <;> rfl
@[simp] theorem State.holdTest_rst (s : State) : s.holdTest.rst = s.rst := by
  unfold State.holdTest State.issueHold State.enterRetained; split
  · dsimp only; split <;> rfl
  · rfl
@[simp] theorem State.advance_rst (s : State) : s.advance.rst = s.rst := by
  simp [State.advance]
@[simp] theorem State.withdrawCommitHalt_laneSignal (s : State) : s.withdrawCommitHalt.laneSignal = s.laneSignal := by
  unfold State.withdrawCommitHalt State.afterWithdrawal; split <;> first | (split <;> rfl) | rfl
@[simp] theorem State.commitReply_laneSignal (s : State) (r : Option ReplyOwed) : (s.commitReply r).laneSignal = s.laneSignal := by
  unfold State.commitReply; split <;> rfl
@[simp] theorem State.commitPoint_laneSignal (s : State) : s.commitPoint.laneSignal = s.laneSignal := by
  simp [State.commitPoint, State.applyCommit, Mgmt.atCommit]
@[simp] theorem State.listEmptyTest_laneSignal (s : State) : s.listEmptyTest.laneSignal = s.laneSignal := by
  unfold State.listEmptyTest; split
  · dsimp only; split <;> split <;> rfl
  · rfl
@[simp] theorem State.haltedTest_laneSignal (s : State) : s.haltedTest.laneSignal = s.laneSignal := by
  unfold State.haltedTest; split <;> rfl
@[simp] theorem State.commitTest_laneSignal (s : State) : s.commitTest.laneSignal = s.laneSignal := by
  unfold State.commitTest; split
  · exact State.commitPoint_laneSignal s
  · rfl
@[simp] theorem State.holdRequestTest_laneSignal (s : State) : s.holdRequestTest.laneSignal = s.laneSignal := by
  unfold State.holdRequestTest; split <;> rfl
@[simp] theorem State.holdTest_laneSignal (s : State) : s.holdTest.laneSignal = s.laneSignal := by
  unfold State.holdTest State.issueHold State.enterRetained; split
  · dsimp only; split <;> rfl
  · rfl
@[simp] theorem State.advance_laneSignal (s : State) : s.advance.laneSignal = s.laneSignal := by
  simp [State.advance]
@[simp] theorem State.withdrawCommitHalt_txLane (s : State) : s.withdrawCommitHalt.txLane = s.txLane := by
  unfold State.withdrawCommitHalt State.afterWithdrawal; split <;> first | (split <;> rfl) | rfl
@[simp] theorem State.commitReply_txLane (s : State) (r : Option ReplyOwed) : (s.commitReply r).txLane = s.txLane := by
  unfold State.commitReply; split <;> rfl
@[simp] theorem State.commitPoint_txLane (s : State) : s.commitPoint.txLane = s.txLane := by
  simp [State.commitPoint, State.applyCommit, Mgmt.atCommit]
@[simp] theorem State.listEmptyTest_txLane (s : State) : s.listEmptyTest.txLane = s.txLane := by
  unfold State.listEmptyTest; split
  · dsimp only; split <;> split <;> rfl
  · rfl
@[simp] theorem State.haltedTest_txLane (s : State) : s.haltedTest.txLane = s.txLane := by
  unfold State.haltedTest; split <;> rfl
@[simp] theorem State.commitTest_txLane (s : State) : s.commitTest.txLane = s.txLane := by
  unfold State.commitTest; split
  · exact State.commitPoint_txLane s
  · rfl
@[simp] theorem State.holdRequestTest_txLane (s : State) : s.holdRequestTest.txLane = s.txLane := by
  unfold State.holdRequestTest; split <;> rfl
@[simp] theorem State.holdTest_txLane (s : State) : s.holdTest.txLane = s.txLane := by
  unfold State.holdTest State.issueHold State.enterRetained; split
  · dsimp only; split <;> rfl
  · rfl
@[simp] theorem State.advance_txLane (s : State) : s.advance.txLane = s.txLane := by
  simp [State.advance]
@[simp] theorem State.withdrawCommitHalt_link (s : State) : s.withdrawCommitHalt.link = s.link := by
  unfold State.withdrawCommitHalt State.afterWithdrawal; split <;> first | (split <;> rfl) | rfl
@[simp] theorem State.commitReply_link (s : State) (r : Option ReplyOwed) : (s.commitReply r).link = s.link := by
  unfold State.commitReply; split <;> rfl
@[simp] theorem State.commitPoint_link (s : State) : s.commitPoint.link = s.link := by
  simp [State.commitPoint, State.applyCommit, Mgmt.atCommit]
@[simp] theorem State.listEmptyTest_link (s : State) : s.listEmptyTest.link = s.link := by
  unfold State.listEmptyTest; split
  · dsimp only; split <;> split <;> rfl
  · rfl
@[simp] theorem State.haltedTest_link (s : State) : s.haltedTest.link = s.link := by
  unfold State.haltedTest; split <;> rfl
@[simp] theorem State.commitTest_link (s : State) : s.commitTest.link = s.link := by
  unfold State.commitTest; split
  · exact State.commitPoint_link s
  · rfl
@[simp] theorem State.holdRequestTest_link (s : State) : s.holdRequestTest.link = s.link := by
  unfold State.holdRequestTest; split <;> rfl
@[simp] theorem State.holdTest_link (s : State) : s.holdTest.link = s.link := by
  unfold State.holdTest State.issueHold State.enterRetained; split
  · dsimp only; split <;> rfl
  · rfl
@[simp] theorem State.advance_link (s : State) : s.advance.link = s.link := by
  simp [State.advance]
@[simp] theorem State.withdrawCommitHalt_adm (s : State) : s.withdrawCommitHalt.adm = s.adm := by
  unfold State.withdrawCommitHalt State.afterWithdrawal; split <;> first | (split <;> rfl) | rfl
@[simp] theorem State.commitReply_adm (s : State) (r : Option ReplyOwed) : (s.commitReply r).adm = s.adm := by
  unfold State.commitReply; split <;> rfl
@[simp] theorem State.commitPoint_adm (s : State) : s.commitPoint.adm = s.adm := by
  simp [State.commitPoint, State.applyCommit, Mgmt.atCommit]
@[simp] theorem State.listEmptyTest_adm (s : State) : s.listEmptyTest.adm = s.adm := by
  unfold State.listEmptyTest; split
  · dsimp only; split <;> split <;> rfl
  · rfl
@[simp] theorem State.haltedTest_adm (s : State) : s.haltedTest.adm = s.adm := by
  unfold State.haltedTest; split <;> rfl
@[simp] theorem State.commitTest_adm (s : State) : s.commitTest.adm = s.adm := by
  unfold State.commitTest; split
  · exact State.commitPoint_adm s
  · rfl
@[simp] theorem State.holdRequestTest_adm (s : State) : s.holdRequestTest.adm = s.adm := by
  unfold State.holdRequestTest; split <;> rfl
@[simp] theorem State.holdTest_adm (s : State) : s.holdTest.adm = s.adm := by
  unfold State.holdTest State.issueHold State.enterRetained; split
  · dsimp only; split <;> rfl
  · rfl
@[simp] theorem State.advance_adm (s : State) : s.advance.adm = s.adm := by
  simp [State.advance]
@[simp] theorem State.withdrawCommitHalt_resp (s : State) : s.withdrawCommitHalt.resp = s.resp := by
  unfold State.withdrawCommitHalt State.afterWithdrawal; split <;> first | (split <;> rfl) | rfl
@[simp] theorem State.commitReply_resp (s : State) (r : Option ReplyOwed) : (s.commitReply r).resp = s.resp := by
  unfold State.commitReply; split <;> rfl
@[simp] theorem State.commitPoint_resp (s : State) : s.commitPoint.resp = s.resp := by
  simp [State.commitPoint, State.applyCommit, Mgmt.atCommit]
@[simp] theorem State.listEmptyTest_resp (s : State) : s.listEmptyTest.resp = s.resp := by
  unfold State.listEmptyTest; split
  · dsimp only; split <;> split <;> rfl
  · rfl
@[simp] theorem State.haltedTest_resp (s : State) : s.haltedTest.resp = s.resp := by
  unfold State.haltedTest; split <;> rfl
@[simp] theorem State.commitTest_resp (s : State) : s.commitTest.resp = s.resp := by
  unfold State.commitTest; split
  · exact State.commitPoint_resp s
  · rfl
@[simp] theorem State.holdRequestTest_resp (s : State) : s.holdRequestTest.resp = s.resp := by
  unfold State.holdRequestTest; split <;> rfl
@[simp] theorem State.holdTest_resp (s : State) : s.holdTest.resp = s.resp := by
  unfold State.holdTest State.issueHold State.enterRetained; split
  · dsimp only; split <;> rfl
  · rfl
@[simp] theorem State.advance_resp (s : State) : s.advance.resp = s.resp := by
  simp [State.advance]
@[simp] theorem State.withdrawCommitHalt_mgmt_queue (s : State) : s.withdrawCommitHalt.mgmt.queue = s.mgmt.queue := by
  unfold State.withdrawCommitHalt State.afterWithdrawal; split <;> first | (split <;> rfl) | rfl
@[simp] theorem State.commitReply_mgmt_queue (s : State) (r : Option ReplyOwed) : (s.commitReply r).mgmt.queue = s.mgmt.queue := by
  unfold State.commitReply; split <;> rfl
@[simp] theorem State.commitPoint_mgmt_queue (s : State) : s.commitPoint.mgmt.queue = s.mgmt.queue := by
  simp [State.commitPoint, State.applyCommit, Mgmt.atCommit]
@[simp] theorem State.listEmptyTest_mgmt_queue (s : State) : s.listEmptyTest.mgmt.queue = s.mgmt.queue := by
  unfold State.listEmptyTest; split
  · dsimp only; split <;> split <;> rfl
  · rfl
@[simp] theorem State.haltedTest_mgmt_queue (s : State) : s.haltedTest.mgmt.queue = s.mgmt.queue := by
  unfold State.haltedTest; split <;> rfl
@[simp] theorem State.commitTest_mgmt_queue (s : State) : s.commitTest.mgmt.queue = s.mgmt.queue := by
  unfold State.commitTest; split
  · exact State.commitPoint_mgmt_queue s
  · rfl
@[simp] theorem State.holdRequestTest_mgmt_queue (s : State) : s.holdRequestTest.mgmt.queue = s.mgmt.queue := by
  unfold State.holdRequestTest; split <;> rfl
@[simp] theorem State.holdTest_mgmt_queue (s : State) : s.holdTest.mgmt.queue = s.mgmt.queue := by
  unfold State.holdTest State.issueHold State.enterRetained; split
  · dsimp only; split <;> rfl
  · rfl
@[simp] theorem State.advance_mgmt_queue (s : State) : s.advance.mgmt.queue = s.mgmt.queue := by
  simp [State.advance]
@[simp] theorem State.withdrawCommitHalt_mgmt_busyHold (s : State) : s.withdrawCommitHalt.mgmt.busyHold = s.mgmt.busyHold := by
  unfold State.withdrawCommitHalt State.afterWithdrawal; split <;> first | (split <;> rfl) | rfl
@[simp] theorem State.commitReply_mgmt_busyHold (s : State) (r : Option ReplyOwed) : (s.commitReply r).mgmt.busyHold = s.mgmt.busyHold := by
  unfold State.commitReply; split <;> rfl
@[simp] theorem State.commitPoint_mgmt_busyHold (s : State) : s.commitPoint.mgmt.busyHold = s.mgmt.busyHold := by
  simp [State.commitPoint, State.applyCommit, Mgmt.atCommit]
@[simp] theorem State.listEmptyTest_mgmt_busyHold (s : State) : s.listEmptyTest.mgmt.busyHold = s.mgmt.busyHold := by
  unfold State.listEmptyTest; split
  · dsimp only; split <;> split <;> rfl
  · rfl
@[simp] theorem State.haltedTest_mgmt_busyHold (s : State) : s.haltedTest.mgmt.busyHold = s.mgmt.busyHold := by
  unfold State.haltedTest; split <;> rfl
@[simp] theorem State.commitTest_mgmt_busyHold (s : State) : s.commitTest.mgmt.busyHold = s.mgmt.busyHold := by
  unfold State.commitTest; split
  · exact State.commitPoint_mgmt_busyHold s
  · rfl
@[simp] theorem State.holdRequestTest_mgmt_busyHold (s : State) : s.holdRequestTest.mgmt.busyHold = s.mgmt.busyHold := by
  unfold State.holdRequestTest; split <;> rfl
@[simp] theorem State.holdTest_mgmt_busyHold (s : State) : s.holdTest.mgmt.busyHold = s.mgmt.busyHold := by
  unfold State.holdTest State.issueHold State.enterRetained; split
  · dsimp only; split <;> rfl
  · rfl
@[simp] theorem State.advance_mgmt_busyHold (s : State) : s.advance.mgmt.busyHold = s.mgmt.busyHold := by
  simp [State.advance]
@[simp] theorem State.withdrawCommitHalt_mgmt_staged (s : State) : s.withdrawCommitHalt.mgmt.staged = s.mgmt.staged := by
  unfold State.withdrawCommitHalt State.afterWithdrawal; split <;> first | (split <;> rfl) | rfl
@[simp] theorem State.commitReply_mgmt_staged (s : State) (r : Option ReplyOwed) : (s.commitReply r).mgmt.staged = s.mgmt.staged := by
  unfold State.commitReply; split <;> rfl
@[simp] theorem State.commitPoint_mgmt_staged (s : State) : s.commitPoint.mgmt.staged = s.mgmt.staged := by
  simp [State.commitPoint, State.applyCommit, Mgmt.atCommit]
@[simp] theorem State.listEmptyTest_mgmt_staged (s : State) : s.listEmptyTest.mgmt.staged = s.mgmt.staged := by
  unfold State.listEmptyTest; split
  · dsimp only; split <;> split <;> rfl
  · rfl
@[simp] theorem State.haltedTest_mgmt_staged (s : State) : s.haltedTest.mgmt.staged = s.mgmt.staged := by
  unfold State.haltedTest; split <;> rfl
@[simp] theorem State.commitTest_mgmt_staged (s : State) : s.commitTest.mgmt.staged = s.mgmt.staged := by
  unfold State.commitTest; split
  · exact State.commitPoint_mgmt_staged s
  · rfl
@[simp] theorem State.holdRequestTest_mgmt_staged (s : State) : s.holdRequestTest.mgmt.staged = s.mgmt.staged := by
  unfold State.holdRequestTest; split <;> rfl
@[simp] theorem State.holdTest_mgmt_staged (s : State) : s.holdTest.mgmt.staged = s.mgmt.staged := by
  unfold State.holdTest State.issueHold State.enterRetained; split
  · dsimp only; split <;> rfl
  · rfl
@[simp] theorem State.advance_mgmt_staged (s : State) : s.advance.mgmt.staged = s.mgmt.staged := by
  simp [State.advance]
@[simp] theorem State.withdrawCommitHalt_mgmt_notice (s : State) : s.withdrawCommitHalt.mgmt.notice = s.mgmt.notice := by
  unfold State.withdrawCommitHalt State.afterWithdrawal; split <;> first | (split <;> rfl) | rfl
@[simp] theorem State.commitReply_mgmt_notice (s : State) (r : Option ReplyOwed) : (s.commitReply r).mgmt.notice = s.mgmt.notice := by
  unfold State.commitReply; split <;> rfl
@[simp] theorem State.commitPoint_mgmt_notice (s : State) : s.commitPoint.mgmt.notice = s.mgmt.notice := by
  simp [State.commitPoint, State.applyCommit, Mgmt.atCommit]
@[simp] theorem State.listEmptyTest_mgmt_notice (s : State) : s.listEmptyTest.mgmt.notice = s.mgmt.notice := by
  unfold State.listEmptyTest; split
  · dsimp only; split <;> split <;> rfl
  · rfl
@[simp] theorem State.haltedTest_mgmt_notice (s : State) : s.haltedTest.mgmt.notice = s.mgmt.notice := by
  unfold State.haltedTest; split <;> rfl
@[simp] theorem State.commitTest_mgmt_notice (s : State) : s.commitTest.mgmt.notice = s.mgmt.notice := by
  unfold State.commitTest; split
  · exact State.commitPoint_mgmt_notice s
  · rfl
@[simp] theorem State.holdRequestTest_mgmt_notice (s : State) : s.holdRequestTest.mgmt.notice = s.mgmt.notice := by
  unfold State.holdRequestTest; split <;> rfl
@[simp] theorem State.holdTest_mgmt_notice (s : State) : s.holdTest.mgmt.notice = s.mgmt.notice := by
  unfold State.holdTest State.issueHold State.enterRetained; split
  · dsimp only; split <;> rfl
  · rfl
@[simp] theorem State.advance_mgmt_notice (s : State) : s.advance.mgmt.notice = s.mgmt.notice := by
  simp [State.advance]
@[simp] theorem State.withdrawCommitHalt_mgmt_counters (s : State) : s.withdrawCommitHalt.mgmt.counters = s.mgmt.counters := by
  unfold State.withdrawCommitHalt State.afterWithdrawal; split <;> first | (split <;> rfl) | rfl
@[simp] theorem State.commitReply_mgmt_counters (s : State) (r : Option ReplyOwed) : (s.commitReply r).mgmt.counters = s.mgmt.counters := by
  unfold State.commitReply; split <;> rfl
@[simp] theorem State.commitPoint_mgmt_counters (s : State) : s.commitPoint.mgmt.counters = s.mgmt.counters := by
  simp [State.commitPoint, State.applyCommit, Mgmt.atCommit]
@[simp] theorem State.listEmptyTest_mgmt_counters (s : State) : s.listEmptyTest.mgmt.counters = s.mgmt.counters := by
  unfold State.listEmptyTest; split
  · dsimp only; split <;> split <;> rfl
  · rfl
@[simp] theorem State.haltedTest_mgmt_counters (s : State) : s.haltedTest.mgmt.counters = s.mgmt.counters := by
  unfold State.haltedTest; split <;> rfl
@[simp] theorem State.commitTest_mgmt_counters (s : State) : s.commitTest.mgmt.counters = s.mgmt.counters := by
  unfold State.commitTest; split
  · exact State.commitPoint_mgmt_counters s
  · rfl
@[simp] theorem State.holdRequestTest_mgmt_counters (s : State) : s.holdRequestTest.mgmt.counters = s.mgmt.counters := by
  unfold State.holdRequestTest; split <;> rfl
@[simp] theorem State.holdTest_mgmt_counters (s : State) : s.holdTest.mgmt.counters = s.mgmt.counters := by
  unfold State.holdTest State.issueHold State.enterRetained; split
  · dsimp only; split <;> rfl
  · rfl
@[simp] theorem State.advance_mgmt_counters (s : State) : s.advance.mgmt.counters = s.mgmt.counters := by
  simp [State.advance]
@[simp] theorem State.withdrawCommitHalt_mgmt_notices (s : State) : s.withdrawCommitHalt.mgmt.notices = s.mgmt.notices := by
  unfold State.withdrawCommitHalt State.afterWithdrawal; split <;> first | (split <;> rfl) | rfl
@[simp] theorem State.commitReply_mgmt_notices (s : State) (r : Option ReplyOwed) : (s.commitReply r).mgmt.notices = s.mgmt.notices := by
  unfold State.commitReply; split <;> rfl
@[simp] theorem State.commitPoint_mgmt_notices (s : State) : s.commitPoint.mgmt.notices = s.mgmt.notices := by
  simp [State.commitPoint, State.applyCommit, Mgmt.atCommit]
@[simp] theorem State.listEmptyTest_mgmt_notices (s : State) : s.listEmptyTest.mgmt.notices = s.mgmt.notices := by
  unfold State.listEmptyTest; split
  · dsimp only; split <;> split <;> rfl
  · rfl
@[simp] theorem State.haltedTest_mgmt_notices (s : State) : s.haltedTest.mgmt.notices = s.mgmt.notices := by
  unfold State.haltedTest; split <;> rfl
@[simp] theorem State.commitTest_mgmt_notices (s : State) : s.commitTest.mgmt.notices = s.mgmt.notices := by
  unfold State.commitTest; split
  · exact State.commitPoint_mgmt_notices s
  · rfl
@[simp] theorem State.holdRequestTest_mgmt_notices (s : State) : s.holdRequestTest.mgmt.notices = s.mgmt.notices := by
  unfold State.holdRequestTest; split <;> rfl
@[simp] theorem State.holdTest_mgmt_notices (s : State) : s.holdTest.mgmt.notices = s.mgmt.notices := by
  unfold State.holdTest State.issueHold State.enterRetained; split
  · dsimp only; split <;> rfl
  · rfl
@[simp] theorem State.advance_mgmt_notices (s : State) : s.advance.mgmt.notices = s.mgmt.notices := by
  simp [State.advance]
@[simp] theorem State.withdrawCommitHalt_mgmt_nextNotice (s : State) : s.withdrawCommitHalt.mgmt.nextNotice = s.mgmt.nextNotice := by
  unfold State.withdrawCommitHalt State.afterWithdrawal; split <;> first | (split <;> rfl) | rfl
@[simp] theorem State.commitReply_mgmt_nextNotice (s : State) (r : Option ReplyOwed) : (s.commitReply r).mgmt.nextNotice = s.mgmt.nextNotice := by
  unfold State.commitReply; split <;> rfl
@[simp] theorem State.commitPoint_mgmt_nextNotice (s : State) : s.commitPoint.mgmt.nextNotice = s.mgmt.nextNotice := by
  simp [State.commitPoint, State.applyCommit, Mgmt.atCommit]
@[simp] theorem State.listEmptyTest_mgmt_nextNotice (s : State) : s.listEmptyTest.mgmt.nextNotice = s.mgmt.nextNotice := by
  unfold State.listEmptyTest; split
  · dsimp only; split <;> split <;> rfl
  · rfl
@[simp] theorem State.haltedTest_mgmt_nextNotice (s : State) : s.haltedTest.mgmt.nextNotice = s.mgmt.nextNotice := by
  unfold State.haltedTest; split <;> rfl
@[simp] theorem State.commitTest_mgmt_nextNotice (s : State) : s.commitTest.mgmt.nextNotice = s.mgmt.nextNotice := by
  unfold State.commitTest; split
  · exact State.commitPoint_mgmt_nextNotice s
  · rfl
@[simp] theorem State.holdRequestTest_mgmt_nextNotice (s : State) : s.holdRequestTest.mgmt.nextNotice = s.mgmt.nextNotice := by
  unfold State.holdRequestTest; split <;> rfl
@[simp] theorem State.holdTest_mgmt_nextNotice (s : State) : s.holdTest.mgmt.nextNotice = s.mgmt.nextNotice := by
  unfold State.holdTest State.issueHold State.enterRetained; split
  · dsimp only; split <;> rfl
  · rfl
@[simp] theorem State.advance_mgmt_nextNotice (s : State) : s.advance.mgmt.nextNotice = s.mgmt.nextNotice := by
  simp [State.advance]
@[simp] theorem State.withdrawCommitHalt_mgmt_dropped (s : State) : s.withdrawCommitHalt.mgmt.dropped = s.mgmt.dropped := by
  unfold State.withdrawCommitHalt State.afterWithdrawal; split <;> first | (split <;> rfl) | rfl
@[simp] theorem State.commitReply_mgmt_dropped (s : State) (r : Option ReplyOwed) : (s.commitReply r).mgmt.dropped = s.mgmt.dropped := by
  unfold State.commitReply; split <;> rfl
@[simp] theorem State.commitPoint_mgmt_dropped (s : State) : s.commitPoint.mgmt.dropped = s.mgmt.dropped := by
  simp [State.commitPoint, State.applyCommit, Mgmt.atCommit]
@[simp] theorem State.listEmptyTest_mgmt_dropped (s : State) : s.listEmptyTest.mgmt.dropped = s.mgmt.dropped := by
  unfold State.listEmptyTest; split
  · dsimp only; split <;> split <;> rfl
  · rfl
@[simp] theorem State.haltedTest_mgmt_dropped (s : State) : s.haltedTest.mgmt.dropped = s.mgmt.dropped := by
  unfold State.haltedTest; split <;> rfl
@[simp] theorem State.commitTest_mgmt_dropped (s : State) : s.commitTest.mgmt.dropped = s.mgmt.dropped := by
  unfold State.commitTest; split
  · exact State.commitPoint_mgmt_dropped s
  · rfl
@[simp] theorem State.holdRequestTest_mgmt_dropped (s : State) : s.holdRequestTest.mgmt.dropped = s.mgmt.dropped := by
  unfold State.holdRequestTest; split <;> rfl
@[simp] theorem State.holdTest_mgmt_dropped (s : State) : s.holdTest.mgmt.dropped = s.mgmt.dropped := by
  unfold State.holdTest State.issueHold State.enterRetained; split
  · dsimp only; split <;> rfl
  · rfl
@[simp] theorem State.advance_mgmt_dropped (s : State) : s.advance.mgmt.dropped = s.mgmt.dropped := by
  simp [State.advance]
@[simp] theorem State.withdrawCommitHalt_mgmt_resetTaken (s : State) : s.withdrawCommitHalt.mgmt.resetTaken = s.mgmt.resetTaken := by
  unfold State.withdrawCommitHalt State.afterWithdrawal; split <;> first | (split <;> rfl) | rfl
@[simp] theorem State.commitReply_mgmt_resetTaken (s : State) (r : Option ReplyOwed) : (s.commitReply r).mgmt.resetTaken = s.mgmt.resetTaken := by
  unfold State.commitReply; split <;> rfl
@[simp] theorem State.commitPoint_mgmt_resetTaken (s : State) : s.commitPoint.mgmt.resetTaken = s.mgmt.resetTaken := by
  simp [State.commitPoint, State.applyCommit, Mgmt.atCommit]
@[simp] theorem State.listEmptyTest_mgmt_resetTaken (s : State) : s.listEmptyTest.mgmt.resetTaken = s.mgmt.resetTaken := by
  unfold State.listEmptyTest; split
  · dsimp only; split <;> split <;> rfl
  · rfl
@[simp] theorem State.haltedTest_mgmt_resetTaken (s : State) : s.haltedTest.mgmt.resetTaken = s.mgmt.resetTaken := by
  unfold State.haltedTest; split <;> rfl
@[simp] theorem State.commitTest_mgmt_resetTaken (s : State) : s.commitTest.mgmt.resetTaken = s.mgmt.resetTaken := by
  unfold State.commitTest; split
  · exact State.commitPoint_mgmt_resetTaken s
  · rfl
@[simp] theorem State.holdRequestTest_mgmt_resetTaken (s : State) : s.holdRequestTest.mgmt.resetTaken = s.mgmt.resetTaken := by
  unfold State.holdRequestTest; split <;> rfl
@[simp] theorem State.holdTest_mgmt_resetTaken (s : State) : s.holdTest.mgmt.resetTaken = s.mgmt.resetTaken := by
  unfold State.holdTest State.issueHold State.enterRetained; split
  · dsimp only; split <;> rfl
  · rfl
@[simp] theorem State.advance_mgmt_resetTaken (s : State) : s.advance.mgmt.resetTaken = s.mgmt.resetTaken := by
  simp [State.advance]

/-! ### the end of an event -/

theorem State.commitReply_sched (s : State) (r : Option ReplyOwed) : (s.commitReply r).sched = s.sched := by
  unfold State.commitReply
  split <;> rfl

theorem State.withdrawCommitHalt_sched (s : State) : s.withdrawCommitHalt.sched = s.sched := by
  unfold State.withdrawCommitHalt State.afterWithdrawal
  split
  · split <;> rfl
  · rfl

/-- A commit point changes of the entries only their overdue mark (R92). -/
theorem State.commitPoint_snapshot (s : State) :
    s.commitPoint.sched.list.map Entry.snapshot = s.sched.list.map Entry.snapshot := by
  simp only [State.commitPoint, State.commitReply_sched, State.withdrawCommitHalt_sched, State.applyCommit, List.map_map]
  refine List.map_congr_left fun e _ => ?_
  simp only [Function.comp_apply]
  unfold promote
  split <;> rfl

theorem State.advance_snapshot (s : State) :
    s.advance.sched.list.map Entry.snapshot = s.sched.list.map Entry.snapshot := by
  have h1 : s.listEmptyTest.sched = s.sched := by
    unfold State.listEmptyTest
    split
    · dsimp only
      split <;> split <;> rfl
    · rfl
  have h2 (s : State) : s.haltedTest.sched = s.sched := by
    unfold State.haltedTest
    split <;> rfl
  have h3 (s : State) : s.commitTest.sched.list.map Entry.snapshot = s.sched.list.map Entry.snapshot := by
    unfold State.commitTest
    split
    · exact s.commitPoint_snapshot
    · rfl
  have h4 (s : State) : s.holdRequestTest.sched = s.sched := by
    unfold State.holdRequestTest
    split <;> rfl
  have h5 (s : State) : s.holdTest.sched = s.sched := by
    unfold State.holdTest State.issueHold State.enterRetained
    split
    · dsimp only
      split <;> rfl
    · rfl
  simp only [State.advance, h5, h4, h3, h2, h1]

/-- The end of an event changes of the entries only state, response slot, bypass count and overdue mark (R69). -/
theorem State.settle_snapshot (s : State) :
    s.settle.sched.list.map Entry.snapshot = s.sched.list.map Entry.snapshot := by
  rw [State.settle, gate_snapshot]
  exact s.advance_snapshot

@[simp] theorem State.settle_pending (s : State) : s.settle.pending = s.pending := by
  simp [State.settle, State.startIdle]
@[simp] theorem State.settle_now (s : State) : s.settle.now = s.now := by
  simp [State.settle, State.startIdle]
@[simp] theorem State.settle_draws (s : State) : s.settle.draws = s.draws := by
  simp [State.settle, State.startIdle]
@[simp] theorem State.settle_rst (s : State) : s.settle.rst = s.rst := by
  simp [State.settle, State.startIdle]
@[simp] theorem State.settle_laneSignal (s : State) : s.settle.laneSignal = s.laneSignal := by
  simp [State.settle, State.startIdle]
@[simp] theorem State.settle_txLane (s : State) : s.settle.txLane = s.txLane := by
  simp [State.settle, State.startIdle]
@[simp] theorem State.settle_link (s : State) : s.settle.link = s.link := by
  simp [State.settle, State.startIdle]
@[simp] theorem State.settle_adm (s : State) : s.settle.adm = s.adm := by
  simp [State.settle, State.startIdle]
@[simp] theorem State.settle_orders (s : State) : s.settle.resp.orders = s.resp.orders := by
  simp [State.settle, State.startIdle]
@[simp] theorem State.settle_mgmt_queue (s : State) : s.settle.mgmt.queue = s.mgmt.queue := by
  simp [State.settle, State.startIdle]
@[simp] theorem State.settle_mgmt_busyHold (s : State) : s.settle.mgmt.busyHold = s.mgmt.busyHold := by
  simp [State.settle, State.startIdle]
@[simp] theorem State.settle_mgmt_staged (s : State) : s.settle.mgmt.staged = s.mgmt.staged := by
  simp [State.settle, State.startIdle]
@[simp] theorem State.settle_mgmt_notice (s : State) : s.settle.mgmt.notice = s.mgmt.notice := by
  simp [State.settle, State.startIdle]
@[simp] theorem State.settle_mgmt_counters (s : State) : s.settle.mgmt.counters = s.mgmt.counters := by
  simp [State.settle, State.startIdle]
@[simp] theorem State.settle_mgmt_notices (s : State) : s.settle.mgmt.notices = s.mgmt.notices := by
  simp [State.settle, State.startIdle]
@[simp] theorem State.settle_mgmt_nextNotice (s : State) : s.settle.mgmt.nextNotice = s.mgmt.nextNotice := by
  simp [State.settle, State.startIdle]
@[simp] theorem State.settle_mgmt_dropped (s : State) : s.settle.mgmt.dropped = s.mgmt.dropped := by
  simp [State.settle, State.startIdle]
@[simp] theorem State.settle_mgmt_resetTaken (s : State) : s.settle.mgmt.resetTaken = s.mgmt.resetTaken := by
  simp [State.settle, State.startIdle]

end Sys2Proof.Machine
end

