-- ==== Sys2Proof/Laws/Commands.lean ====
section
/-! SUPPORT. What the shared forms of the commands answer: an event, a request taken from the management queue, an ack and
credit taken, a selection of the transmit arbiter. -/

namespace Sys2Proof.Machine

/-! ### events -/

/-- Out of reset, a command's effect happens. -/
theorem State.event_running {s : State} {f : State → State} (h : s.rst = none) : s.event f = .next (f s) := by
  simp [State.event, h]

/-- While RESET_N is asserted, nothing happens. -/
theorem State.event_inReset {s : State} {f : State → State} (h : s.rst.isSome) : s.event f = .next s := by
  simp [State.event, h]

/-- An event answers a next state, and keeps the queue of waiting commands where its effect does. -/
theorem State.event_answers {s : State} {f : State → State} (h : (f s).pending = s.pending) :
    ∃ t, s.event f = .next t ∧ t.pending = s.pending := by
  cases hr : s.rst.isSome
  · exact ⟨f s, by simp [State.event, hr], h⟩
  · exact ⟨s, by simp [State.event, hr], rfl⟩

/-! ### requests of the management queue (R153, R154) -/

/-- No request is taken while a reply waits to be sent, a RESET-PART waits, or the queue is empty. -/
theorem State.takeRow_waits {s : State} {row : Row} {run : State → List Byte → Echo → State}
    (h : s.mgmt.queue = [] ∨ s.mgmt.replies ≠ [] ∨ s.mgmt.resetTaken = true) : s.takeRow row run = s := by
  unfold State.takeRow
  rcases hq : s.mgmt.queue with - | ⟨body, rest⟩
  · rfl
  · rcases h with h | h | h <;> simp_all [Mgmt.mayTake]

/-- The echoes of a body that carries them. -/
theorem State.echoOf_eq (s : State) {body : List Byte} (h : 5 ≤ body.length) : s.echoOf body = echoFields body := by
  have get : ∀ i < 5, body.getD i (Config.freeByte s.draws i) = body.getD i 0 := fun i hi => by
    simp [List.getD_eq_getElem?_getD, List.getElem?_eq_getElem (show i < body.length by omega)]
  simp only [State.echoOf, echoFields, State.echoByte, get 0 (by omega), get 1 (by omega), get 2 (by omega),
    get 3 (by omega), get 4 (by omega)]

/-- A request that passes the tests is executed. -/
theorem State.Takes.passes {s : State} {row : Row} {body : List Byte} {rest : List (List Byte)} (h : s.Takes row body rest)
    (ht : s.requestTests body = none) (run : State → List Byte → Echo → State) :
    s.takeRow row run = run (s.taken rest) body (echoFields body) := by
  simp [State.takeRow, h.queue, h.replies, h.resetTaken, h.row_eq, Mgmt.mayTake, ht, State.echoed, State.taken,
    s.echoOf_eq h.echoes, show ¬body.length < 5 from Nat.not_lt.2 h.echoes]

/-- A request that fails a test is answered with the test's status. -/
theorem State.Takes.fails {s : State} {row : Row} {body : List Byte} {rest : List (List Byte)} {st : MStatus}
    (h : s.Takes row body rest) (ht : s.requestTests body = some st) (run : State → List Byte → Echo → State) :
    s.takeRow row run = (s.taken rest).reply (echoFields body) st := by
  simp [State.takeRow, h.queue, h.replies, h.resetTaken, h.row_eq, Mgmt.mayTake, ht, State.echoed, State.taken,
    s.echoOf_eq h.echoes, show ¬body.length < 5 from Nat.not_lt.2 h.echoes]

/-- The echoed replies of a request taken. -/
theorem State.taken_reply (s : State) (rest : List (List Byte)) (e : Echo) (st : MStatus) (v : List Byte)
    (h : s.mgmt.replies = []) :
    (s.taken rest).reply e st v =
      { s with mgmt := { s.mgmt with queue := rest, replies := [.manageReply e st .none 0 v] } } := by
  simp [State.reply, State.taken, h]

/-! ### ack and credit (R138, R142) -/

/-- Taking an ack and a credit changes neither E, the receive buffer nor the link state. -/
theorem State.takeAckCredit_keeps (s : State) (f : Frame) :
    (s.takeAckCredit f).link.expect = s.link.expect ∧ (s.takeAckCredit f).link.rx = s.link.rx ∧
      (s.takeAckCredit f).link.state = s.link.state := by
  simp only [State.takeAckCredit, State.takeAck]
  by_cases h : s.link.acked f.ack = 0 <;> simp [h, State.setLink]

/-- Taking an ack and a credit changes the link alone. -/
theorem State.takeAckCredit_frame (s : State) (f : Frame) :
    s.takeAckCredit f = { s with link := (s.takeAckCredit f).link } := by
  simp only [State.takeAckCredit, State.takeAck]
  by_cases h : s.link.acked f.ack = 0 <;> simp [h, State.setLink]

/-! ### transmit arbiter (R143, R148) -/

/-- Taking a new sequenced frame, in the statements' words. -/
theorem State.takeNew_eq (s : State) (f : OutFrame) : s.takeNew f = s.sentNew f := by
  simp only [State.takeNew, State.sentNew, State.send, State.setLink, State.laneFrame, Link.ack, Link.credit,
    State.ackTimeout]

/-- TRANSMIT_SELECT out of reset. -/
theorem exec_transmitSelect {s : State} (h : s.rst = none) :
    exec .transmitSelect s = .next (match s.select with | some t => t.resetIfTaken | none => s) := by
  simp only [exec, execTransmitSelect]
  exact State.event_running h

/-- No RESET-PART waits. -/
theorem State.resetIfTaken_none {t : State} (h : t.mgmt.resetTaken = false) : t.resetIfTaken = t := by
  simp [State.resetIfTaken, h]

/-- A selection where ranks 1 and 2 present nothing and new frames are allowed. -/
theorem State.SendsNew.select {s : State} (h : s.SendsNew) :
    s.select = s.takeManageReply.or (s.takeNotice.or (s.takeHold.or s.takeFinal)) := by
  obtain ⟨-, up, a, b, c, d, e, f, g⟩ := h
  simp only [State.select, State.sendControl, State.sendResend, State.sendNew, a, b, c, d, e]
  simp [Link.allowsNew, up, f, g]

/-- TRANSMIT_SELECT of a new frame. -/
theorem State.SendsNew.exec {s t : State} (h : s.SendsNew) (ht : t.mgmt.resetTaken = false)
    (h2 : s.takeManageReply.or (s.takeNotice.or (s.takeHold.or s.takeFinal)) = some t) :
    exec .transmitSelect s = .next t := by
  rw [exec_transmitSelect h.running, h.select, h2]
  exact congrArg _ (State.resetIfTaken_none ht)

/-- Nothing of rank 3 is presented. -/
theorem State.NoRank3.takes {s : State} (h : s.NoRank3) : s.takeManageReply = none ∧ s.takeNotice = none := by
  refine ⟨by simp [State.takeManageReply, Mgmt.busyFirst, h.busyHold, h.replies], ?_⟩
  rcases h.notices with h | h
  · simp [State.takeNotice, h]
  · cases hn : s.mgmt.notices <;> simp [State.takeNotice, hn, h]

/-- The search from the round-robin pointer upward finds the first requester that presents something. -/
theorem searchOrder_findSome {α : Type} {rr n : ReqNo} (g : ReqNo → Option α) (h : ∀ m < n, g (rr + m) = none) {a : α}
    (ha : g (rr + n) = some a) : (searchOrder rr).findSome? g = some a := by
  have key : ∀ l : List ReqNo, l.Pairwise (· < ·) → n ∈ l → (l.map fun i => rr + i).findSome? g = some a := by
    intro l
    induction l with
    | nil => simp
    | cons x xs ih =>
      intro hp hm
      rw [List.pairwise_cons] at hp
      rw [List.map_cons, List.findSome?_cons]
      rcases List.mem_cons.1 hm with rfl | hm
      · rw [ha]
      · rw [h x (hp.1 _ hm)]
        exact ih hp.2 hm
  exact key _ (by decide) (List.mem_finRange _)

end Sys2Proof.Machine
end

