-- ==== Sys2Proof/Laws/Store.lean ====
section
/-! SUPPORT. The stored chunks: read after write, chunk numbers, and the canonical form, which every operation keeps. -/

namespace Sys2Proof.Machine

/-! ### read after write -/

@[simp] theorem Store.find_put_same (m : Store) (k : Nat) (c : Chunk) : (m.put k c).find k = some c := by
  induction m with
  | nil => simp [Store.put, Store.find]
  | cons x m ih =>
    obtain ⟨k', c'⟩ := x
    unfold Store.put
    split
    · simp [Store.find]
    · split
      · simp [Store.find]
      · simp [Store.find, *]

theorem Store.find_put_ne (m : Store) {j k : Nat} (c : Chunk) (h : j ≠ k) : (m.put k c).find j = m.find j := by
  induction m with
  | nil => simp [Store.put, Store.find, h]
  | cons x m ih =>
    obtain ⟨k', c'⟩ := x
    unfold Store.put
    split
    · simp [Store.find, h]
    · split
      · rename_i e
        subst e
        simp [Store.find, h]
      · simp [Store.find, ih]

/-! ### chunk numbers -/

theorem chunkKey_lt {b : BankNo} {p k : Nat} (hp : p < 32768) (hk : k < 64) : chunkKey b p k < 33554432 := by
  have := b.2
  unfold chunkKey
  omega

@[simp] theorem bankOfKey_chunkKey {b : BankNo} {p k : Nat} (hp : p < 32768) (hk : k < 64) :
    bankOfKey (chunkKey b p k) = b.val := by
  have := b.2
  unfold bankOfKey chunkKey
  omega

theorem chunkKey_inj {b b' : BankNo} {p p' k k' : Nat} (hp : p < 32768) (hp' : p' < 32768) (hk : k < 64) (hk' : k' < 64)
    (h : chunkKey b p k = chunkKey b' p' k') : b = b' ∧ p = p' ∧ k = k' := by
  have := b.2
  have := b'.2
  unfold chunkKey at h
  refine ⟨Fin.ext (by omega), by omega, by omega⟩

/-! ### the canonical form -/

/-- The canonical form, entry by entry. -/
theorem Store.wf_iff (m : Store) :
    m.wf = true ↔ m.Pairwise (fun a b => a.1 < b.1) ∧ ∀ kc ∈ m, kc.1 < 33554432 ∧ kc.2.data.length = 32 := by
  induction m with
  | nil => simp [Store.wf]
  | cons x m ih =>
    obtain ⟨k, c⟩ := x
    cases m with
    | nil => simp [Store.wf]
    | cons y m =>
      obtain ⟨k', c'⟩ := y
      simp only [Store.wf, Bool.and_eq_true, decide_eq_true_eq, ih, List.pairwise_cons, List.mem_cons, forall_eq_or_imp]
      constructor
      · rintro ⟨⟨h1, h2⟩, ⟨h3, h4⟩, ⟨h5, h6⟩, h7⟩
        exact ⟨⟨⟨h1, fun a ha => h1.trans (h3 a ha)⟩, h3, h4⟩, ⟨by omega, h2⟩, ⟨h5, h6⟩, h7⟩
      · rintro ⟨⟨⟨h1, -⟩, h3, h4⟩, ⟨-, h2⟩, h5, h7⟩
        exact ⟨⟨h1, h2⟩, ⟨h3, h4⟩, h5, h7⟩

/-- Keeping some of the chunks keeps the form. -/
theorem Store.wf_filter {m : Store} (h : m.wf = true) (p : Nat × Chunk → Bool) : Store.wf (m.filter p) = true := by
  rw [Store.wf_iff] at *
  exact ⟨h.1.filter _, fun kc hk => h.2 kc (List.mem_of_mem_filter hk)⟩

theorem Store.wf_decay {m : Store} (h : m.wf = true) (b : BankNo) : (m.decay b).wf = true := Store.wf_filter h _

theorem Store.wf_decayWhere {m : Store} (h : m.wf = true) (lost : BankNo → Bool) : (m.decayWhere lost).wf = true :=
  Store.wf_filter h _

theorem State.wf_arrayAtCommit {s : State} (h : s.array.wf = true) : s.arrayAtCommit.wf = true := by
  unfold State.arrayAtCommit
  split
  · exact h
  · exact Store.wf_decayWhere h _

/-- Keeping the chunks of some numbers keeps what is found under them. -/
theorem Store.find_filter (m : Store) (q : Nat → Bool) (k : Nat) :
    Store.find (m.filter fun kc => q kc.1) k = if q k then m.find k else none := by
  induction m with
  | nil => simp [Store.find]
  | cons x m ih =>
    obtain ⟨k', c⟩ := x
    by_cases e : k = k'
    · subst e
      by_cases h : q k = true <;> simp_all [Store.find]
    · by_cases h : q k' = true <;> simp [h, Store.find, e, ih]

/-- Every chunk of the banks given is gone, and every other one stays (R39). -/
theorem Store.find_decayWhere (m : Store) (lost : BankNo → Bool) (b : BankNo) {p k : Nat} (hp : p < 32768) (hk : k < 64) :
    (m.decayWhere lost).find (chunkKey b p k) = if lost b then none else m.find (chunkKey b p k) := by
  have e : ((List.finRange 16).any fun b' => decide (bankOfKey (chunkKey b p k) = b'.val) && lost b') = lost b := by
    rw [bankOfKey_chunkKey hp hk, Bool.eq_iff_iff]
    simp only [List.any_eq_true, List.mem_finRange, true_and, Bool.and_eq_true, decide_eq_true_eq]
    exact ⟨fun ⟨b', h, hl⟩ => Fin.ext h ▸ hl, fun h => ⟨b, rfl, h⟩⟩
  rw [Store.decayWhere, Store.find_filter m fun n => !(List.finRange 16).any fun b => bankOfKey n = b.val && lost b, e]
  cases lost b <;> rfl

theorem Store.mem_put {m : Store} {k : Nat} {c : Chunk} {x : Nat × Chunk} (h : x ∈ m.put k c) : x = (k, c) ∨ x ∈ m := by
  induction m with
  | nil => simpa [Store.put] using h
  | cons y m ih =>
    obtain ⟨k', c'⟩ := y
    unfold Store.put at h
    split at h
    · simpa using h
    · split at h
      · rcases List.mem_cons.1 h with h | h
        · exact .inl h
        · exact .inr (List.mem_cons_of_mem _ h)
      · rcases List.mem_cons.1 h with h | h
        · exact .inr (h ▸ List.mem_cons_self)
        · rcases ih h with h | h
          · exact .inl h
          · exact .inr (List.mem_cons_of_mem _ h)

/-- Storing a chunk of 32 bytes under a number of the array keeps the form. -/
theorem Store.wf_put {m : Store} (h : m.wf = true) {k : Nat} {c : Chunk} (hk : k < 33554432) (hc : c.data.length = 32) :
    (m.put k c).wf = true := by
  rw [Store.wf_iff] at *
  refine ⟨?_, fun x hx => ?_⟩
  · induction m with
    | nil => simp [Store.put]
    | cons y m ih =>
      obtain ⟨k', c'⟩ := y
      obtain ⟨h1, h2⟩ := h
      rw [List.pairwise_cons] at h1
      have ih := ih ⟨h1.2, fun x hx => h2 x (List.mem_cons_of_mem _ hx)⟩
      unfold Store.put
      split
      · rename_i hlt
        refine List.pairwise_cons.2 ⟨fun x hx => ?_, List.pairwise_cons.2 h1⟩
        rcases List.mem_cons.1 hx with rfl | hx
        · exact hlt
        · exact hlt.trans (h1.1 x hx)
      · split
        · rename_i e
          subst e
          exact List.pairwise_cons.2 h1
        · refine List.pairwise_cons.2 ⟨fun x hx => ?_, ih⟩
          rcases Store.mem_put hx with rfl | hx
          · show k' < k
            omega
          · exact h1.1 x hx
  · rcases Store.mem_put hx with rfl | hx
    · exact ⟨hk, hc⟩
    · exact h.2 x hx

/-- A chunk found in a store in canonical form has 32 bytes. -/
theorem Store.find_length {m : Store} (h : m.wf = true) {k : Nat} {c : Chunk} (hf : m.find k = some c) :
    c.data.length = 32 := by
  rw [Store.wf_iff] at h
  induction m with
  | nil => simp [Store.find] at hf
  | cons y m ih =>
    obtain ⟨k', c'⟩ := y
    unfold Store.find at hf
    split at hf
    · cases hf
      exact (h.2 _ List.mem_cons_self).2
    · exact ih ⟨(List.pairwise_cons.1 h.1).2, fun x hx => h.2 x (List.mem_cons_of_mem _ hx)⟩ hf

/-! ### chunks -/

@[simp] theorem flipBit_length (d : List Byte) (pos : Nat) : (flipBit d pos).length = d.length := by simp [flipBit]

@[simp] theorem freeChunk_length (n : Nat) : (freeChunk n).data.length = 32 := by simp [freeChunk]

@[simp] theorem mergeChunk_length (en : List Bool) (new : List Byte) (old : Chunk) :
    (mergeChunk en new old).data.length = 32 := by simp [mergeChunk, Chunk.fresh]

theorem Chunk.disturb_length {c : Chunk} (u : UpsetKind) (h : c.data.length = 32) : (c.disturb u).data.length = 32 := by
  cases u with
  | oneBit pos => simp [Chunk.disturb, h]
  | anyBits d =>
    simp only [Chunk.disturb]
    split
    · assumption
    · exact h

theorem Chunk.foldl_disturb_length (us : List Upset) {c : Chunk} (h : c.data.length = 32) :
    (us.foldl (fun c u => c.disturb u.kind) c).data.length = 32 := by
  induction us generalizing c with
  | nil => exact h
  | cons u us ih => exact ih (Chunk.disturb_length u.kind h)

/-! ### operations on the array -/

/-- Reading a chunk changes nothing but the count of free values. -/
@[simp] theorem State.orFree_array (s : State) (o : Option Chunk) : (s.orFree o).2.array = s.array := by cases o <;> rfl

/-- A chunk whose contents are guaranteed is the stored one (log 6, 10). -/
theorem State.guaranteed_eq_some {s : State} {b : BankNo} {p k : Nat} {c : Chunk} :
    s.guaranteed b p k = some c ↔ s.exemptBank b = false ∧ s.array.find (chunkKey b p k) = some c := by
  simp [State.guaranteed]

/-- What a merge has read at its start, position by position (R27). -/
theorem State.readOld_merge {s : State} {e : Entry} {k : Nat} (h : k < e.size.chunks) :
    (s.readOld e .merge)[k]? = some (s.guaranteed e.bank e.page (e.first + k)) := by
  simp [State.readOld, h]

theorem State.wf_disturbChunk {s : State} (h : s.array.wf = true) {e : Entry} {k : Nat} (hp : e.page < 32768)
    (hk : e.first + k < 64) (ups : List Upset) : (s.disturbChunk e k ups).array.wf = true := by
  unfold State.disturbChunk
  split
  · rename_i c hc
    by_cases hu : (ups.any fun u => u.chunk = k) = true
    · rw [if_pos hu]
      exact Store.wf_put h (chunkKey_lt hp hk) (Chunk.foldl_disturb_length _ (Store.find_length h hc))
    · rwa [if_neg hu]
  · exact h

end Sys2Proof.Machine
end

