-- ==== Sys2Proof/Tests/Slice0.lean ====
section
/-! SUPPORT. Tests: the well-formedness smoke, the manual's worked examples and tables, one step of each command, and a
state that meets the hypotheses of each obligation. -/

open Sys2Proof Sys2Proof.Machine

-- One theorem after the other: each kernel evaluation would hold a thread of its own.
set_option Elab.async false

namespace Sys2Proof.Tests

/-! ### states -/

/-- Two requesters: 1 as in the example of section 3.9 (ORDERED, COMMIT, quota 2), 2 UNORDERED and ADMIT. Window 0 covers
logical 0 MiB to 1024 MiB for both. -/
def tables : Objects :=
  { Objects.reset with
    windows := Objects.reset.windows.set 0
      { Window.reset with valid := true, sizeExp := 10, readSet := 0xFFFF, writeSet := 0x0006 }
    requesters :=
      (Objects.reset.requesters.set 1
        { Requester.reset 1 with enabled := true, quota := 2, order := .ordered, returnOrder := .leadFirst }).set 2
        { Requester.reset 2 with enabled := true, quota := 4, ackPoint := .admission } }

/-- SERVING, RUN, the link UP in session 1, every debt −4 as in the examples of sections 8.7 and 9.7. -/
def serving : State :=
  { State.reset with
    now := 1000000
    laneSignal := true
    link := { Link.reset with state := .up, session := 1, live := true, sendLimit := 200 }
    port := { State.reset.port with mode := .run, tInit := none }
    ren :=
      { records := Table.fill 16 { debt := -4, exempt := false, lapse := false }
        tick := some { at_ := 1003200, period := 3200 } }
    mgmt :=
      { State.reset.mgmt with
        active := tables, staged := tables, notices := []
        part := { State.reset.mgmt.part with state := .serving } } }

/-- A READ of requester 1, ISSUED on bank 3 with response slot 2. -/
def entryA : Entry where
  id := 0
  requester := 1
  tag := 4
  tagHeld := true
  kind := .read
  bank := 3
  page := 700
  first := 40
  size := .c4
  lead := some 2
  returnOrder := .leadFirst
  priority := .normal
  policy := .keepOpen
  writeSlot := none
  respSlot := some 2
  blockedBy := none
  bypass := 0
  overdue := false
  state := .issued

/-- A MASKED-WRITE of requester 1 behind it, with write slot 5. -/
def entryB : Entry :=
  { entryA with
    id := 1, tag := 5, kind := .masked, first := 42, size := .c2, lead := none, writeSlot := some 5, respSlot := none
    blockedBy := some 0, state := .waiting }

/-- A READ of requester 2 on another bank. -/
def entryC : Entry :=
  { entryA with
    id := 2, requester := 2, tag := 9, bank := 6, page := 9, first := 0, size := .c1, lead := some 0
    returnOrder := .linear, respSlot := none, state := .waiting }

/-- The first chunk of the masked write is fully enabled, half of the second is. -/
def slotB : WriteSlot where
  data := List.replicate 64 0x77
  enables := List.replicate 48 true ++ List.replicate 208 false
  owner := 1

/-- The stored chunks of entry A's block: CLEAN, CLEAN, CORRECTED, POISONED, as in step 7 of section 6.6. -/
def blockA : Store :=
  [(chunkKey 3 700 40, Chunk.fresh (List.replicate 32 0x10) false),
   (chunkKey 3 700 41, Chunk.fresh (List.replicate 32 0x11) false),
   (chunkKey 3 700 42, { data := List.replicate 32 0x12, check := .oneBit 0, poison := false }),
   (chunkKey 3 700 43, Chunk.fresh (List.replicate 32 0x13) true)]

/-- `serving` with entries A, B and C, A's access ending at 1000020. -/
def busy : State :=
  { serving with
    adm :=
      { serving.adm with
        tags := (serving.adm.tags.set 1 [4, 5]).set 2 [9]
        slots := serving.adm.slots.set 5 (some slotB) }
    sched := { serving.sched with list := [entryA, entryB, entryC], nextId := 3 }
    port :=
      { serving.port with
        direction := .read
        lastAccess := some 999000
        banks := serving.port.banks.set 3
          { Bank.idle .accessing with openPage := some 700, access := some .read, tAccess := some 1000020 } }
    array := blockA
    resp :=
      { slots := serving.resp.slots.set 2 (.reserved entryA.slotOwner false)
        orders := (serving.resp.orders.set 1
          [{ tag := 4, mode := .ordered, state := .owed }, { tag := 5, mode := .ordered, state := .owed }]).set 2
          [{ tag := 9, mode := .unordered, state := .owed }] } }

/-- `busy` once A has left: the merge of B in progress, ending at 1000060. -/
def merging : State :=
  { busy with
    sched := { busy.sched with list := [{ entryB with blockedBy := none, state := .issued }, entryC] }
    port :=
      { busy.port with
        banks := busy.port.banks.set 3
          { Bank.idle .accessing with
            openPage := some 700, access := some .merge, tAccess := some 1000060
            oldChunks := [busy.guaranteed 3 700 42, busy.guaranteed 3 700 43] } }
    resp :=
      { slots := serving.resp.slots
        orders := busy.resp.orders.set 1 [{ tag := 5, mode := .ordered, state := .owed }] }
    adm := { busy.adm with tags := busy.adm.tags.set 1 [5] } }

/-- The state after one command. -/
def after (c : Instr) (s : State) : State :=
  match step { s with pending := [c] } with
  | .next t => t
  | .fault _ => s
  | .refused _ => s

/-- A frame of the kind, sequence, ack, credit and body given, on the lane. -/
def lane (kind seq ack credit : Byte) (body : List Byte) : List Byte :=
  Frame.bytes { kind := kind, seq := seq, ack := ack, credit := credit, body := body }

/-- `s` with a frame in a receive slot. -/
def withRx (s : State) (kind : Byte) (body : List Byte) : State :=
  { s with link := { s.link with rx := [{ kind := kind, body := body }] } }

/-- `s` with a request at the old end of the management queue. -/
def asked (s : State) (body : List Byte) : State := { s with mgmt := { s.mgmt with queue := [body] } }

/-- `s` with another link controller. -/
def withLink (s : State) (f : Link → Link) : State := { s with link := f s.link }

/-- `s` with another array port. -/
def withPort (s : State) (f : Port → Port) : State := { s with port := f s.port }

/-- `s` with another management unit. -/
def withMgmt (s : State) (f : Mgmt → Mgmt) : State := { s with mgmt := f s.mgmt }

/-- `s` with another part state. -/
def withPart (s : State) (st : PartState) : State :=
  withMgmt s fun m => { m with part := { m.part with state := st } }

/-- `s` with another renewal record of bank `b`. -/
def withDebt (s : State) (b : BankNo) (d : Int) : State :=
  { s with ren := { s.ren with records := s.ren.records.set b { debt := d, exempt := false, lapse := false } } }

/-- RETAINED, with the array HELD. -/
def retained : State :=
  withPort (withPart { serving with ren := { serving.ren with tick := none } } .retained) fun p =>
    { p with mode := .held, drainHalt := true, banks := Table.fill 16 (Bank.idle .held) }

/-- An OPEN bank record, opened long ago. -/
def openBank (page : Nat) : Bank := { Bank.idle .opened with openPage := some page }

/-- A request of requester 0, management tag 7, for the object `obj`, index 0. -/
def manage (op obj copy : Byte) (value : List Byte) : List Byte :=
  [0, 7, op, obj, 0, copy, byteOf value.length] ++ value

/-- A read of requester 1, tag 7, of the chunk at logical byte 4096 × 32. -/
def readBody (tag : Byte) : List Byte := [1, tag, 0, 0, 2, 0, 0, 0, 0]

/-- A write of requester `r`, of one chunk there. -/
def writeBody (r tag : Byte) : List Byte := [r, tag, 0, 0, 2, 0, 0, 0, 0] ++ List.replicate 32 0x55

/-! ### well-formedness smoke: one ill-formed command for each check -/

theorem test_wf_badCheck : (Instr.badCheckFrame (lane 0x70 0 10 7 [])).wellFormed = false := by decide +kernel
theorem test_wf_sequenced : (Instr.inboundSequencedFrame (lane 0x70 0 10 7 [])).wellFormed = false := by decide +kernel
theorem test_wf_ack : (Instr.hostAck (lane 0x71 0 10 7 [3])).wellFormed = false := by decide +kernel
theorem test_wf_replay : (Instr.hostReplay [0x71, 0, 10, 7, 3, 0, 0, 0, 0]).wellFormed = false := by decide +kernel
theorem test_wf_train : (Instr.hostTrain (lane 0x70 0 10 7 [])).wellFormed = false := by decide +kernel
theorem test_wf_upset_position :
    (Instr.accessCompletion 0 [{ chunk := 8, kind := .oneBit 0 }]).wellFormed = false := by decide
theorem test_wf_upset_data :
    (Instr.accessCompletion 0 [{ chunk := 0, kind := .anyBits [1, 2] }]).wellFormed = false := by decide
theorem test_wf_good :
    (Instr.hostAck (lane 0x70 0 10 7 [])).wellFormed = true ∧
      (Instr.accessCompletion 0 [{ chunk := 7, kind := .oneBit 256 }]).wellFormed = true := by decide +kernel

/-- No row of the command table has bits. -/
theorem test_decode_none : ∀ n w, decodeTableWord n w = none := fun _ _ => rfl

/-! ### worked examples and tables of the manual -/

/-- Section 1.1: one chunk under both map modes. -/
theorem test_map_example :
    (bankOf .bankFirst 70000, pageOf .bankFirst 70000, chunkOf 70000) = (5, 68, 48) ∧
      (bankOf .pageFirst 70000, pageOf .pageFirst 70000) = (0, 1093) := by decide

/-- Section 2.1: translating one read. -/
theorem test_translate_example :
    let w : Window := { Window.reset with valid := true, logicalBase := 4096, sizeExp := 2, physicalBase := 100 }
    let p := w.translate 4295967232
    p = 3308048 ∧ (bankOf .bankFirst p, pageOf .bankFirst p, chunkOf p) = (8, 3230, 16) ∧
      (bankOf .pageFirst p, pageOf .pageFirst p) = (1, 18920) ∧ chunkOf (w.translate 4295967328) = 19 := by
  decide +kernel

/-- Section 2.1: exemption under both map modes. -/
theorem test_exemption_example :
    let w : Nat → Nat → Nat → ContentClass → Window := fun l k p c =>
      { Window.reset with valid := true, logicalBase := l, sizeExp := k, physicalBase := p, content := c }
    let o : Objects :=
      { Objects.reset with
        windows := ((Objects.reset.windows.set 0 (w 0 6 0 .retained)).set 1 (w 128 7 64 .discardable)).set 2
          (w 256 4 500 .retained) }
    (List.finRange 16).filter (exemptIn { o with timing := { o.timing with mapMode := .pageFirst } }) =
        [1, 2, 3, 4, 5, 6, 9, 10, 11, 12, 13, 14, 15] ∧
      (List.finRange 16).filter (exemptIn o) = [] ∧ validate o = none := by decide +kernel

/-- R60's table: three older entries on the page, a new read and a new write of chunks 8 to 15. -/
theorem test_hazard_table :
    let e : Nat → ReqKind → Nat → BlockSize → Entry := fun id k f sz =>
      { entryC with id := id, kind := k, bank := 4, page := 100, first := f, size := sz }
    let a := e 0 .write 12 .c2
    let b := e 1 .read 8 .c8
    let c := e 2 .write 16 .c8
    (youngestConflict [a] (e 3 .read 8 .c8), youngestConflict [a] (e 3 .write 8 .c8)) = (some 0, some 0) ∧
      (youngestConflict [a, b] (e 3 .read 8 .c8), youngestConflict [a, b] (e 3 .write 8 .c8)) = (some 0, some 1) ∧
      (youngestConflict [a, b, c] (e 3 .read 8 .c8), youngestConflict [a, b, c] (e 3 .write 8 .c8)) =
        (some 0, some 1) := by decide +kernel

/-- Section 7.5: the ack window. -/
theorem test_ack_window_example :
    let l : Link := { Link.reset with nextSeq := 2, ring := List.replicate 4 (.void 0 0) }
    [253, 254, 255, 0, 1].all l.inWindow = true ∧ l.inWindow 2 = false ∧ l.inWindow 100 = false ∧
      l.acked 253 = 0 ∧ l.acked 255 = 2 ∧ l.acked 1 = 4 := by decide +kernel

/-- Section 11.4: one SET on the wire: the object, the value, and the lengths of the request and of its reply. -/
theorem test_set_on_the_wire :
    let v : List Byte := [1, 6, 0, 1, 0, 1, 0, 0, 2, 0, 2, 1, 1]
    objectOf 0x11 = some (.window 1) ∧
      parseWindow v = some { valid := true, logicalBase := 256, sizeExp := 6, physicalBase := 256, readSet := 2,
                             writeSet := 2, policy := .closeAfter, content := .discardable } ∧
      (lane 0x20 0 0 0 (manage 1 0x11 1 v)).length = 28 ∧
      (lane 0x48 0 0 0 (OutFrame.manageReply (echoFields (manage 1 0x11 1 v)) .ok .none 0 []).body).length = 17 := by
  decide +kernel

/-- R192: the check of the empty string of bits is the inverted start value; the other value is the published one of this
generator, start value, bit order and inversion, for the characters 1 to 9. -/
theorem test_frame_check :
    frameCheck [] = 0 ∧ frameCheck [0x31, 0x32, 0x33, 0x34, 0x35, 0x36, 0x37, 0x38, 0x39] = 0xFC891918 := by
  decide +kernel

/-- Section 6.6, step 7: chunk results CLEAN, CLEAN, CORRECTED, POISONED, lead chunk 2, LEAD-FIRST. -/
theorem test_poisoned_data_example :
    let results : List CheckResult := [.clean, .clean, .corrected, .poisoned]
    dataStatus results false = .poisoned ∧ frameOrder .leadFirst 2 .c4 = [2, 3, 0, 1] ∧
      badList entryA.slotOwner results = [1] := by decide

/-- Section 2.4: a window of 256 MiB at 128 MiB fails WINDOW-ALIGN with index 0. -/
theorem test_window_align_example :
    validate
      { tables with
        windows := Objects.reset.windows.set 0
          { Window.reset with valid := true, logicalBase := 128, sizeExp := 8 } } = some (.windowAlign, 0) := by
  decide +kernel

/-! ### one step of each command -/

/-- The chunks of `blockA` stored, with bank 3 exempt. -/
def withExempt3 (s : State) : State :=
  { s with
    array := blockA
    ren := { s.ren with records := s.ren.records.set 3 { debt := 0, exempt := true, lapse := false } } }

/-- Section 9.7: a reset in RETAINED is warm; one in DRAINING is cold. A bank made exempt in HELD keeps its chunks through a
warm reset (R22, R24). -/
theorem test_resetNAssert :
    (after .resetNAssert (withExempt3 retained)).rst = some .warm ∧
      (after .resetNAssert (withExempt3 retained)).array = blockA ∧
      (after .resetNAssert (withExempt3 (withPart retained .draining))).rst = some .cold ∧
      (after .resetNAssert (withExempt3 (withPart retained .draining))).array = [] := by decide +kernel

/-- R39: a bank exempt at the hold has lost its chunks by then. -/
theorem test_hold_loses_exempt_chunks :
    let s := withPort serving fun p => { p with mode := .halted, holdReq := true }
    (withExempt3 s).holdTest.port.mode = .held ∧ (withExempt3 s).holdTest.array = [] ∧
      ({ s with array := blockA } : State).holdTest.array = blockA := by decide +kernel

/-- Section 9.7: after a warm start the wake is issued and T_EXIT 250 runs. -/
theorem test_resetNRelease :
    let t := after .resetNRelease (after .resetNAssert retained)
    t.port.mode = .waking ∧ t.port.tExit = some 1000250 ∧ t.mgmt.part.state = .starting ∧
      t.mgmt.notices.map Notice.report = [.started .warm] := by decide +kernel

/-- R132: an offer, the 100 µs offer timer and the 8 ms state timer. -/
theorem test_laneSignalPresent :
    let l := (after .laneSignalPresent State.reset).link
    l.state = .training ∧ l.offers = 1 ∧ l.offerTimer = some 100000 ∧ l.stateTimer = some 8000000 := by decide +kernel

/-- R133: cause SIGNAL-LOSS, the 2 ms state timer; R149: the hold timer. -/
theorem test_signalLoss :
    let t := after .signalLoss serving
    t.link.state = .recovery ∧ t.link.stateTimer = some 3000000 ∧ t.link.holdTimer = some 2000000 ∧
      t.mgmt.notices.map Notice.report = [.linkRecovery .signalLoss] := by decide +kernel

/-- Section 7.9, step 2: frame 11 with a bad check. -/
theorem test_badCheckFrame :
    let t := after (.badCheckFrame [0x10, 11, 0, 0, 1, 2, 3, 4]) (withLink serving fun l => { l with expect := 11 })
    t.link.expect = 11 ∧ t.link.replayMark = some 11 ∧ t.link.replays = [11] ∧ t.mgmt.counters.get 8 = 1 := by
  decide +kernel

/-- Section 7.9, step 1: frame 10 is accepted. -/
theorem test_inboundSequencedFrame :
    let t := after (.inboundSequencedFrame (lane 0x10 10 255 8 (readBody 1))) (withLink serving fun l =>
      { l with expect := 10 })
    t.link.expect = 11 ∧ t.link.rx.length = 1 ∧ t.link.updateOwed = true := by decide +kernel

/-- Section 7.9, step 3: frame 12 is discarded as ahead, with no second REPLAY; its credit is taken. -/
theorem test_inboundSequencedFrame_ahead :
    let t := after (.inboundSequencedFrame (lane 0x10 12 255 9 (readBody 1))) (withLink serving fun l =>
      { l with expect := 11, replayMark := some 11, markTimer := some 1020000 })
    t.link.expect = 11 ∧ t.link.rx = [] ∧ t.link.replays = [] ∧ t.link.sendLimit = 9 := by decide +kernel

/-- Section 7.10: the ring holds frames 40 to 43 of session 3. -/
def ring40 : State :=
  withLink serving fun l =>
    { l with
      session := 3, nextSeq := 44, sendLimit := 8, ackTimer := some 1020000
      ring := [.void 0 40, .void 0 41, .void 0 42, .void 0 43] }

/-- Section 7.10, time 5: host ACK, ack 41. -/
theorem test_hostAck :
    let l := (after (.hostAck (lane 0x70 0 41 8 [])) ring40).link
    l.ring = [.void 0 42, .void 0 43] ∧ l.expiries = 0 ∧ l.ackTimer = some 1020000 ∧ l.state = .up := by decide +kernel

/-- R146: a REPLAY that names frame 42 moves the resend point; one that names 44 is outside the ring. -/
theorem test_hostReplay :
    (after (.hostReplay (lane 0x71 0 39 8 [42])) ring40).link.resend = some 42 ∧
      (after (.hostReplay (lane 0x71 0 39 8 [44])) ring40).link.state = .recovery := by decide +kernel

/-- Section 7.10, time 230: a host TRAIN resumes session 3. -/
theorem test_hostTrain :
    let s := withLink ring40 fun l =>
      { l with state := .recovery, ring := l.ring.drop 2, expiries := 4, ackTimer := none, holdTimer := some 2000000 }
    let l := (after (.hostTrain (lane 0x72 0 42 6 [0, 3, 1, 0])) s).link
    l.state = .up ∧ l.ring = [.void 0 43] ∧ l.resend = some 43 ∧ l.sendLimit = 6 ∧ l.expiries = 0 ∧
      l.holdTimer = none ∧ l.answers = [{ mode := .resume, session := 3, expect := 0 }] := by decide +kernel

/-- Section 7.10, end: with no session live a RESUME for session 3 is answered NEW with session 4. -/
theorem test_hostTrain_new :
    let s := withLink serving fun l => { l with state := .recovery, session := 3, live := false }
    let l := (after (.hostTrain (lane 0x72 0 42 6 [0, 3, 1, 0])) s).link
    l.state = .up ∧ l.session = 4 ∧ l.live = true ∧ l.answers = [{ mode := .new, session := 4, expect := 0 }] := by
  decide +kernel

/-- Section 7.10, time 25: the ring is sent again from its oldest frame. -/
theorem test_ackTimerExpiry :
    let t := after .ackTimerExpiry ring40
    t.link.expiries = 1 ∧ t.link.resend = some 40 ∧ t.link.ackTimer = some 1040000 ∧ t.mgmt.counters.get 9 = 1 := by
  decide +kernel

/-- Section 7.10, time 85: the fourth expiry. -/
theorem test_ackTimerExpiry_fourth :
    let t := after .ackTimerExpiry (withLink ring40 fun l => { l with expiries := 3 })
    t.link.state = .recovery ∧ t.link.holdTimer = some 2020000 ∧ t.link.stateTimer = some 3020000 ∧ t.link.offers = 1 ∧
      t.mgmt.counters.get 9 = 0 := by decide +kernel

/-- R140. -/
theorem test_replayMarkTimerExpiry :
    (after .replayMarkTimerExpiry (withLink serving fun l =>
      { l with replayMark := some 0, markTimer := some 1020000 })).link.replayMark = none := by decide +kernel

/-- Section 7.10, end, and R151: the session is lost; the WAITING entries leave, and A's slot is marked for discard. -/
theorem test_holdTimerExpiry :
    let t := after .holdTimerExpiry (withLink busy fun l => { l with state := .recovery, holdTimer := some 1000010 })
    t.link.live = false ∧ t.sched.list.map Entry.id = [0] ∧ t.mgmt.part.state = .draining ∧
      t.resp.slots.get 2 = .reserved entryA.slotOwner true ∧ t.adm.slots.get 5 = none := by decide +kernel

/-- Section 7.10, time 185: the offer is sent again. -/
theorem test_offerTimerExpiry :
    let l := (after .offerTimerExpiry (withLink serving fun l =>
      { l with state := .recovery, offerTimer := some 1100000 })).link
    l.offers = 1 ∧ l.offerTimer = some 1200000 := by decide +kernel

/-- R132. -/
theorem test_trainingTimeout :
    (after .trainingTimeout (withLink serving fun l =>
      { l with state := .training, stateTimer := some 8000000 })).link.state = .down := by decide +kernel

/-- R133: the session stays live while the hold timer runs. -/
theorem test_recoveryTimeout :
    let l := (after .recoveryTimeout (withLink serving fun l =>
      { l with state := .recovery, stateTimer := some 3000000, holdTimer := some 9000000 })).link
    l.state = .down ∧ l.live = true ∧ l.holdTimer = some 9000000 := by decide +kernel

/-- R141, section 11.1: the header of an ACK: kind, sequence 0, ack E − 1, credit 8. -/
theorem test_transmitSelect_ack :
    (after .transmitSelect (withLink serving fun l => { l with expect := 11, updateOwed := true })).txLane.map
      (List.take 4) = some [0x70, 0, 10, 8] := by decide +kernel

/-- Section 6.6, step 11: the arbiter takes requester 2's VOID. -/
theorem test_transmitSelect_final :
    let s :=
      { busy with
        resp := { busy.resp with orders := busy.resp.orders.set 2 [{ tag := 9, mode := .unordered, state := .void }] } }
    let t := after .transmitSelect s
    t.resp.orders.get 2 = [] ∧ t.adm.tags.get 2 = [] ∧ t.link.rr = 3 ∧ t.link.ring = [.void 2 9] := by decide +kernel

/-- Section 3.9, request 1: admitted. -/
theorem test_read :
    let t := after .read (withRx serving 0x10 (readBody 7))
    t.adm.tags.get 1 = [7] ∧ t.adm.replyHold = none ∧
      t.sched.list.map (fun e => (e.bank, e.page, e.first)) = [(0, 4, 0)] := by decide +kernel

/-- Section 3.9, request 3: TAG-IN-USE. -/
theorem test_read_tagInUse :
    let t := after .read (withRx busy 0x10 (readBody 4))
    t.adm.replyHold = some (.refuse 1 4 0x10 .tagInUse) ∧ t.sched = busy.sched := by decide +kernel

/-- Section 3.9, request 2: admitted and detached. -/
theorem test_write :
    let t := after .write (withRx serving 0x11 (writeBody 2 20))
    t.adm.replyHold = some (.done 2 20 .ok) ∧ t.adm.tags.get 2 = [] ∧
      t.sched.list.map Entry.writeSlot = [some 0] := by decide +kernel

/-- Section 3.9, request 5: QUOTA. -/
theorem test_write_quota :
    (after .write (withRx busy 0x11 (writeBody 1 9))).adm.replyHold = some (.refuse 1 9 0x11 .quota) := by
  decide +kernel

/-- Section 3.9, request 6: admitted and detached; section 11.2: enable byte 0 covers data bytes 0 to 7. -/
theorem test_maskedWrite :
    let t := after .maskedWrite (withRx serving 0x12 (writeBody 2 20 ++ [0x81, 0, 0, 0]))
    t.adm.replyHold = some (.done 2 20 .ok) ∧
      (t.adm.slots.get 0).map (fun w => w.enables.take 9) =
        some [true, false, false, false, false, false, false, true, false] := by decide +kernel

/-- Section 4.6: a WAITING entry is cancelled. -/
theorem test_cancel :
    let t := after .cancel (withRx busy 0x18 [2, 9])
    t.sched.list.map Entry.id = [0, 1] ∧ t.sched.cancelHold = none ∧
      t.resp.orders.get 2 = [{ tag := 9, mode := .unordered, state := .void }] := by decide +kernel

/-- Section 4.6: an ISSUED one is TOO-LATE. -/
theorem test_cancel_tooLate :
    (after .cancel (withRx busy 0x18 [1, 4])).sched.cancelHold = some (.cancelReply 1 4 .tooLate) := by decide +kernel

/-- R153: a fifth request is answered BUSY. -/
theorem test_manageFrame :
    let t := after .manageFrame (withRx (withMgmt serving fun m => { m with queue := List.replicate 4 [] }) 0x20
      (manage 0 0x49 0 []))
    t.mgmt.queue.length = 4 ∧ t.link.rx = [] ∧
      t.mgmt.busyHold = some { frame := .manageReply ⟨0, 7, 0, 0x49, 0⟩ .busy .none 0 [], ahead := 0 } := by
  decide +kernel

/-- R130: LINK-SETTINGS is 20 µs and 1000 µs after reset. -/
theorem test_get :
    (after .get (asked serving (manage 0 0x49 0 []))).mgmt.replies =
      [.manageReply ⟨0, 7, 0, 0x49, 0⟩ .ok .none 0 [0, 20, 3, 232]] := by decide +kernel

/-- Section 11.4: the SET of window 1. -/
theorem test_set :
    let t := after .set (asked serving (manage 1 0x11 1 [1, 6, 0, 1, 0, 1, 0, 0, 2, 0, 2, 1, 1]))
    (t.mgmt.staged.windows.get 1).logicalBase = 256 ∧ t.mgmt.status.stagedDiffers = true ∧
      t.mgmt.active = serving.mgmt.active := by decide +kernel

/-- R159: NOTICE-SETTINGS changes at once. -/
theorem test_setNoticeSettings :
    (after .setNoticeSettings (asked serving (manage 1 0x58 1 [3, 0x0F]))).mgmt.notice =
      { destination := 3, enables := 0x0F } := by decide +kernel

/-- Section 8.7, time 0: T_RD 24 and idle close 25 staged. -/
def timingStaged : State :=
  withMgmt serving fun m =>
    { m with
      staged := { m.staged with timing := { m.staged.timing with tRd := 24, idleClose := 25 } }
      status := { m.status with stagedDiffers := true, epoch := 4 } }

/-- Section 8.7, time 0: the commit asks for the halt; bank 7 keeps it from HALTED. -/
theorem test_commit :
    let s := withPort timingStaged fun p =>
      { p with banks := p.banks.set 7 { Bank.idle .renewing with tRen := some 1000120 } }
    let t := after .commit (asked s (manage 2 0 0 []))
    t.port.mode = .halting ∧ t.mgmt.commit.state = .haltWait ∧ t.mgmt.replies = [] ∧ t.mgmt.status.epoch = 4 := by
  decide +kernel

/-- R161. -/
theorem test_discard :
    let t := after .discard (asked timingStaged (manage 3 0 0 []))
    t.mgmt.staged = t.mgmt.active ∧ t.mgmt.status.stagedDiffers = false ∧ t.mgmt.status.epoch = 4 := by decide +kernel

/-- Section 9.7, time 0: the list is not empty, so the stage is LIST and the mode stays RUN. -/
theorem test_enterRetain :
    let t := after .enterRetain (asked busy (manage 4 2 0 [1]))
    t.mgmt.part.state = .draining ∧ t.mgmt.part.stage = some .list ∧ t.port.mode = .run ∧ t.mgmt.replies = [] := by
  decide +kernel

/-- Section 9.7, end: a LEAVE-RETAIN in stage HALT: ABANDONED, then OK, and back to RUN. -/
theorem test_leaveRetain :
    let s := withPort (withMgmt busy fun m => { m with part :=
      { m.part with state := .draining, stage := some .halt, retainOwed := some ⟨0, 6, 4, 2, 0⟩ } }) fun p =>
        { p with mode := .halting, drainHalt := true }
    let t := after .leaveRetain (asked s (manage 4 2 0 [2]))
    t.port.mode = .run ∧ t.mgmt.part.state = .serving ∧
      t.mgmt.replies = [.manageReply ⟨0, 6, 4, 2, 0⟩ .abandoned .none 0 [], .manageReply ⟨0, 7, 4, 2, 0⟩ .ok .none 0 []] := by
  decide +kernel

/-- R130: in UP an ACK is owed first. -/
theorem test_resetPart :
    let t := after .resetPart (asked serving (manage 4 2 0 [3]))
    t.mgmt.resetTaken = true ∧ t.link.updateOwed = true ∧ t.link.state = .up := by decide +kernel

/-- R109, R194: bit b of the bank set is bank b. -/
theorem test_lapseClear :
    let s :=
      { serving with
        ren := { serving.ren with records := Table.fill 16 { debt := -4, exempt := false, lapse := true } } }
    let t := after .lapseClear (asked s (manage 4 0x41 0 [1, 0x80, 0x01]))
    (List.finRange 16).filter (fun b => !(t.ren.records.get b).lapse) = [0, 15] := by decide +kernel

/-- R185. -/
theorem test_clear :
    (after .clear (asked (withMgmt serving fun m => { m with counters := Table.fill 11 65535 })
      (manage 4 0x50 0 [1]))).mgmt.counters = Table.fill 11 0 := by decide +kernel

/-- R154 test 1: operation code 05h. -/
theorem test_unknownOperation :
    (after .unknownOperation (asked serving (manage 5 2 0 [1]))).mgmt.replies =
      [.manageReply ⟨0, 7, 5, 2, 0⟩ .badValue .none 0 []] := by decide +kernel

/-- R18, R97: RUN 200 µs after the end of the reset; a tick each 3.2 µs; R101, R102: two pull-in renews begin. -/
theorem test_tInitExpiry :
    let t := after .tInitExpiry State.reset
    t.port.mode = .run ∧ t.mgmt.part.state = .serving ∧ t.ren.tick = some { at_ := 203200, period := 3200 } ∧
      (List.finRange 16).filter (fun b => (t.bank b).state = .renewing) = [0, 1] := by decide +kernel

/-- Section 9.7, 250 after release: banks CLOSED, pull-in renews two banks at a time, SERVING. -/
theorem test_tExitExpiry :
    let s := withPort (withPart retained .starting) fun p =>
      { p with mode := .waking, drainHalt := false, tExit := some 1000250 }
    let t := after .tExitExpiry { s with ren := RenewalUnit.reset }
    t.port.mode = .run ∧ t.mgmt.part.state = .serving ∧
      (List.finRange 16).filter (fun b => (t.bank b).state = .renewing) = [0, 1] ∧ (t.bank 2).state = .closed := by
  decide +kernel

/-- Section 1.3: OPENING becomes OPEN; R77: nothing targets the bank, so its idle-close timer starts (50 × 20 ns). -/
theorem test_tOaExpiry :
    let s := withPort serving fun p =>
      { p with
        banks := p.banks.set 9
          { Bank.idle .opening with
            openPage := some 5, dwellMet := false, tOa := some 1000020, tDwell := some 1000050 } }
    let t := after (.tOaExpiry 9) s
    (t.bank 9).state = .opened ∧ t.sched.idle.get 9 = .running 1001020 := by decide +kernel

/-- Section 8.7, time 50: bank 9's T_DWELL expiry; its halt close issues. -/
theorem test_tDwellExpiry :
    let s := withPort serving fun p =>
      { p with
        mode := .halting, commitHalt := true
        banks := p.banks.set 9 { openBank 5 with dwellMet := false, tDwell := some 1000050 } }
    (after (.tDwellExpiry 9) s).bank 9 = { Bank.idle .closing with tClose := some 1000080 } := by decide +kernel

/-- Section 6.6, step 7: the place of tag 4 becomes READY with DATA POISONED. -/
theorem test_accessCompletion_read :
    let t := after (.accessCompletion 3 []) busy
    t.resp.orders.get 1 = [{ tag := 4, mode := .ordered, state := .data .poisoned 2 [1] },
      { tag := 5, mode := .ordered, state := .owed }] ∧ t.mgmt.counters.get 2 = 1 ∧ t.mgmt.counters.get 1 = 0 := by
  decide +kernel

/-- R27: the merge of B: chunk 42 fully enabled, chunk 43 merged with its poisoned old chunk, as read at its start: the
bank's contents are no longer guaranteed at the completion, as an overrun in between leaves them (R98). -/
theorem test_accessCompletion_merge :
    let t := after (.accessCompletion 3 []) { merging with array := [] }
    t.array.find (chunkKey 3 700 42) = some (Chunk.fresh (List.replicate 32 0x77) false) ∧
      t.array.find (chunkKey 3 700 43) =
        some (Chunk.fresh (List.replicate 16 0x77 ++ List.replicate 16 0x13) true) ∧
      t.resp.orders.get 1 = [{ tag := 5, mode := .ordered, state := .done .poisoned }] ∧ t.mgmt.counters.get 3 = 1 := by
  decide +kernel

/-- R6, R27: the merge of B issues: one chunk is partial, and both old chunks are read. -/
theorem test_issue_merge :
    let s := withPort { busy with sched := { busy.sched with list := [{ entryB with blockedBy := none }] } } fun p =>
      { p with banks := p.banks.set 3 (openBank 700) }
    let r := (s.issue { bank := 3, op := .access { entryB with blockedBy := none }, rank := [] }).bank 3
    r.access = some .merge ∧ r.tAccess = some 1000040 ∧
      r.oldChunks.map (Option.map Chunk.result) = [some .corrected, some .poisoned] := by decide +kernel

/-- R7: recovery is met T_WREC after the write. -/
theorem test_tWrecExpiry :
    let s := withPort serving fun p =>
      { p with banks := p.banks.set 4 { openBank 5 with recoveryMet := false, tWrec := some 1000030 } }
    ((after (.tWrecExpiry 4) s).bank 4).recoveryMet = true := by decide +kernel

/-- Section 5.8, time 3240: T_CLOSE expiry; the urgent RENEW issues. -/
theorem test_tCloseExpiry :
    let s := withDebt (withPort serving fun p =>
      { p with banks := p.banks.set 5 { Bank.idle .closing with tClose := some 1000030 } }) 5 6
    (after (.tCloseExpiry 5) s).bank 5 = { Bank.idle .renewing with tRen := some 1000230 } := by decide +kernel

/-- Section 8.7, time 120: bank 7's T_REN expiry; every bank CLOSED; HALTED; the commit point; RUN. -/
theorem test_tRenExpiry :
    let s := withDebt (withPort (withMgmt timingStaged fun m => { m with commit :=
      { state := .haltWait, mapChange := false, replyOwed := some (.owed ⟨0, 7, 2, 0, 0⟩) } }) fun p =>
        { p with
          mode := .halting, commitHalt := true
          banks := p.banks.set 7 { Bank.idle .renewing with tRen := some 1000120 } }) 7 (-3)
    let t := after (.tRenExpiry 7) s
    (t.ren.records.get 7).debt = -4 ∧ t.port.mode = .run ∧ t.mgmt.active.timing.tRd = 24 ∧ t.mgmt.status.epoch = 5 ∧
      t.mgmt.replies = [.manageReply ⟨0, 7, 2, 0, 0⟩ .ok .none 0 []] := by decide +kernel

/-- Section 5.8, time 4110: the idle CLOSE issues, although the bank is due. -/
theorem test_idleCloseExpiry :
    let s := withDebt (withPort serving fun p => { p with banks := p.banks.set 5 (openBank 7) }) 5 1
    let t := after (.idleCloseExpiry 5) { s with sched := { s.sched with idle := s.sched.idle.set 5 (.running 1000100) } }
    (t.bank 5).state = .closing ∧ (t.bank 5).tClose = some 1000130 := by decide +kernel

/-- Section 8.7, time 135: T_OO after the last open, the next OPEN issues. -/
theorem test_tOoPassed :
    let t := after .tOoPassed (withPort busy fun p => { p with history := [1000000] })
    t.now = 1000015 ∧ (t.bank 6).state = .opening ∧ t.port.history = [1000000, 1000015] := by decide +kernel

/-- R12: at most four opens in any T_QUAD. -/
theorem test_tQuadPassed :
    let s := withPort busy fun p => { p with history := [1000000, 1000015, 1000030, 1000045] }
    let t := after .tQuadPassed s
    t.now = 1000060 ∧ (t.bank 6).state = .opening ∧ t.port.history = [1000015, 1000030, 1000045, 1000060] := by
  decide +kernel

/-- R14: T_TURN after the last write access, a read issues on the open page. -/
theorem test_tTurnPassed :
    let s := withPort busy fun p =>
      { p with direction := .write, lastAccess := some 1000000, banks := serving.port.banks.set 6 (openBank 9) }
    let t := after .tTurnPassed s
    t.now = 1000010 ∧ (t.bank 6).state = .accessing ∧ (t.bank 6).tAccess = some 1000030 := by decide +kernel

/-- R98: a tick at +8 is an overrun; elsewhere the debt rises by 1. -/
theorem test_tick :
    let t := after .tick (withDebt serving 5 8)
    (t.ren.records.get 5) = { debt := 8, exempt := false, lapse := true } ∧ (t.ren.records.get 4).debt = -3 ∧
      t.mgmt.counters.get 0 = 1 ∧ t.ren.tick = some { at_ := 1006400, period := 3200 } := by decide +kernel

/-- Section 10.6, steps 6 and 10: a report with the queue full is dropped, and the next one queued carries the count. -/
theorem test_report :
    let full := withMgmt serving fun m =>
      { m with
        notices := List.replicate 16 { number := 42, report := .renewalOverrun 5, dropped := 0 }, nextNotice := 43 }
    let t := full.report (.renewalOverrun 5)
    t.mgmt.notices.length = 16 ∧ t.mgmt.nextNotice = 43 ∧ t.mgmt.dropped = 1 ∧ t.mgmt.counters.get 10 = 1 ∧
      ((withMgmt t fun m => { m with notices := [], dropped := 2 }).report (.renewalOverrun 5)).mgmt.notices =
        [{ number := 43, report := .renewalOverrun 5, dropped := 2 }] := by decide +kernel

/-- Section 4.5: head reserve with two free slots: requesters 1 and 4 ORDERED, requester 6 UNORDERED. -/
theorem test_headReserve_example :
    let e : Nat → ReqNo → Byte → Entry := fun id r tag => { entryC with id := id, requester := r, tag := tag }
    let place : Byte → OrderMode → Place := fun tag m => { tag := tag, mode := m, state := .owed }
    let s : State := { serving with
      sched := { serving.sched with list := [e 0 1 3, { e 1 4 9 with state := .issued, respSlot := some 12 }, e 2 4 10,
        e 3 6 1] }
      resp :=
        { slots := (Table.fill 32 (.reserved entryC.slotOwner false)).set 0 .free |>.set 1 .free
          orders := ((serving.resp.orders.set 1 [place 3 .ordered]).set 4 [place 9 .ordered, place 10 .ordered]).set 6
            [place 1 .unordered] } }
    s.headReads = 2 ∧ s.freeSlots = 2 ∧ [e 0 1 3, e 2 4 10, e 3 6 1].map s.mayReserve = [true, true, false] := by
  decide +kernel

/-! ### witnesses: states and operands that meet the hypotheses of each obligation, clause by clause -/

theorem witness_StepRunsFrontCommand : serving.pending = [] := rfl

theorem witness_EveryCommandAnswers :
    ({ serving with adm := { serving.adm with replyHold := some (.void 0 0) } } : State).adm.replyHold ≠ none ∧
      ({ serving with sched := { serving.sched with cancelHold := some (.void 0 0) } } : State).sched.cancelHold ≠ none ∧
      serving.mgmt.queue = [] ∧ (withMgmt serving fun m => { m with replies := [.void 0 0] }).mgmt.replies ≠ [] ∧
      (withMgmt serving fun m => { m with resetTaken := true }).mgmt.resetTaken = true ∧
      (Instr.hostAck [0x70, 0, 10, 7, 0, 0, 0, 0]).wellFormed = false := by decide +kernel

theorem witness_ResetAssertion :
    serving.rst = none ∧ retained.rst = none ∧ (after .resetNAssert retained).rst = some .warm ∧
      (after .resetNAssert serving).rst = some .cold := by decide +kernel

theorem witness_ResetRelease :
    (after .resetNAssert retained).InReset .warm ∧ (after .resetNAssert serving).InReset .cold ∧
      (after .resetNAssert serving).laneSignal = true ∧ (after .resetNAssert State.reset).laneSignal = false := by
  refine ⟨?_, ?_, ?_, ?_⟩
  · constructor <;> decide +kernel
  · constructor <;> decide +kernel
  · decide +kernel
  · decide +kernel

/-- WAKING, T_EXIT ending at 1000250. -/
def waking : State :=
  withPort (withPart retained .resuming) fun p => { p with mode := .waking, drainHalt := false, tExit := some 1000250 }

theorem witness_StartIntervalsEnd :
    State.reset.rst = none ∧ State.reset.port.mode = .init ∧ State.reset.port.tInit = some 200000 ∧
      waking.rst = none ∧ waking.port.mode = .waking ∧ waking.port.tExit = some 1000250 := by decide +kernel

/-- A request as it stands at the old end of the queue of `s`. -/
theorem takes (s : State) (row : Row) (body : List Byte) (h1 : s.rst = none) (h2 : s.mgmt.replies = [])
    (h3 : s.mgmt.resetTaken = false) (h4 : rowOf body = row) (h5 : 5 ≤ body.length) : (asked s body).Takes row body [] :=
  ⟨h1, rfl, h2, h3, h4, h5⟩

theorem witness_ResetPartResets :
    ((asked serving (manage 4 2 0 [3])).Takes .resetPart (manage 4 2 0 [3]) [] ∧
      (asked serving (manage 4 2 0 [3])).requestTests (manage 4 2 0 [3]) = none ∧ serving.link.state = .up) ∧
    ((asked (withLink retained fun l => { l with state := .down }) (manage 4 2 0 [3])).Takes .resetPart
        (manage 4 2 0 [3]) [] ∧
      (asked (withLink retained fun l => { l with state := .down }) (manage 4 2 0 [3])).requestTests
        (manage 4 2 0 [3]) = none ∧
      (asked (withLink retained fun l => { l with state := .down }) (manage 4 2 0 [3])).link.state ≠ .up) ∧
    (let s := withLink (withMgmt serving fun m => { m with resetTaken := true }) fun l => { l with updateOwed := true }
     s.rst = none ∧ s.mgmt.resetTaken = true ∧ s.link.state = .up ∧ s.link.updateOwed = true ∧ s.link.answers = [] ∧
       s.link.offers = 0 ∧ s.link.replays = []) := by
  refine ⟨⟨takes _ _ _ ?_ ?_ ?_ ?_ ?_, ?_, ?_⟩, ⟨takes _ _ _ ?_ ?_ ?_ ?_ ?_, ?_, ?_⟩, ?_⟩ <;> decide +kernel

/-- One bank in each of the states the bank timers leave. -/
def timers : State :=
  withPort serving fun p =>
    { p with
      banks :=
        p.banks |>.set 0 { openBank 5 with state := .opening, tOa := some 1000010 }
          |>.set 1 { openBank 5 with dwellMet := false, tDwell := some 1000010 }
          |>.set 2 { openBank 5 with recoveryMet := false, tWrec := some 1000010 }
          |>.set 3 { Bank.idle .closing with tClose := some 1000010 }
          |>.set 15 { Bank.idle .renewing with tRen := some 1000010 } }

theorem witness_BankTimersExpire :
    timers.rst = none ∧ ((timers.bank 0).state = .opening ∧ (timers.bank 0).tOa = some 1000010) ∧
      (timers.bank 1).tDwell = some 1000010 ∧ (timers.bank 2).tWrec = some 1000010 ∧
      ((timers.bank 3).state = .closing ∧ (timers.bank 3).tClose = some 1000010) ∧
      ((timers.bank 15).state = .renewing ∧ (timers.bank 15).tRen = some 1000010) := by decide +kernel

theorem witness_IdleCloseAndIntervals :
    let s : State := withPort { serving with sched := { serving.sched with idle := serving.sched.idle.set 15 (.running 7) } }
      fun p => { p with history := [3, 4, 5, 6], lastAccess := some 9 }
    s.rst = none ∧ s.sched.idle.get 15 = .running 7 ∧ s.port.history.getLast? = some 6 ∧
      s.port.history = 3 :: [4, 5, 6] ∧ 4 ≤ s.port.history.length ∧ s.port.lastAccess = some 9 := by decide +kernel

theorem witness_ReadCompletes :
    busy.Completes 3 .read 1000020 entryA ∧ entryA.kind = .read ∧ entryA.writeSlot = none ∧ entryA.respSlot = some 2 ∧
      busy.resp.slots.get 2 = .reserved entryA.slotOwner false ∧
      (let s := { busy with resp := { busy.resp with slots := busy.resp.slots.set 2 (.reserved entryA.slotOwner true) } }
       s.Completes 3 .read 1000020 entryA ∧ s.resp.slots.get 2 = .reserved entryA.slotOwner true) := by
  refine ⟨?_, rfl, rfl, rfl, by decide +kernel, ?_, by decide +kernel⟩ <;> constructor <;> decide +kernel

/-- Entry B as `merging` holds it. -/
def issuedB : Entry := { entryB with blockedBy := none, state := .issued }

/-- A chunk that is fully enabled and a partial one; then a block with no enable on. -/
theorem witness_WriteCompletes :
    (merging.Completes 3 .merge 1000060 issuedB ∧ issuedB.kind ≠ .read ∧ issuedB.writeSlot = some 5 ∧
      merging.adm.slots.get 5 = some slotB ∧ slotB.enables.length = 256 ∧
      (∀ n < 32, slotB.enables.getD (32 * 0 + n) false = true) ∧
      (∃ n < 32, slotB.enables.getD (32 * 1 + n) false = true) ∧
      (∃ n < 32, slotB.enables.getD (32 * 1 + n) false = false)) ∧
    (let off := { slotB with enables := List.replicate 256 false }
     let s := { merging with adm := { merging.adm with slots := merging.adm.slots.set 5 (some off) } }
     s.Completes 3 .merge 1000060 issuedB ∧ s.adm.slots.get 5 = some off ∧ off.enables.length = 256 ∧
       ∀ n < 32, off.enables.getD (32 * 0 + n) false = false) := by
  refine ⟨⟨?_, by decide, rfl, by decide +kernel, by decide +kernel, by decide +kernel, ⟨15, by decide +kernel⟩,
    ⟨16, by decide +kernel⟩⟩, ?_, by decide +kernel, by decide +kernel, by decide +kernel⟩ <;> constructor <;> decide +kernel

theorem witness_TickRaisesDebts :
    let s := withDebt (withDebt serving 5 8) 6 7
    s.rst = none ∧ s.ren.tick = some { at_ := 1003200, period := 3200 } ∧ (s.ren.records.get 5).debt = 8 ∧
      (s.ren.records.get 6).debt = 7 := by decide +kernel

/-- The last block of a window that ends at 1024 MiB. -/
theorem witness_TranslationStaysInArray :
    let w : Window := { Window.reset with valid := true, physicalBase := 1023 }
    let body : List Byte := [1, 7, 0, 0, 0x0F, 0xFF, 0xE0, 3, 0]
    let q : DataReq :=
      { requester := 1, tag := 7, address := 1048544, size := .c8, priority := .normal, data := [], enables := [] }
    33554431 < 33554432 ∧ parseReq .read body = some q ∧ w.contains (blockStart .read q) q.size.bytes = true ∧
      w.physicalBase + 2 ^ w.sizeExp ≤ 1024 := by decide +kernel

theorem witness_IssueEffects :
    (withPort busy fun p => { p with history := [1, 2, 3, 4] }).port.history.length ≤ 4 ∧
      busy.sched.list.Pairwise (fun x y => x.id < y.id) ∧ entryC ∈ busy.sched.list ∧ entryB ∈ busy.sched.list ∧
      entryB.kind = .masked ∧ entryB.writeSlot = some 5 ∧ busy.adm.slots.get 5 = some slotB ∧
      slotB.enables.length = 256 ∧ (1 < entryB.size.chunks ∧ slotB.enables.getD (32 * 1 + 15) false = true ∧
        slotB.enables.getD (32 * 1 + 16) false = false) ∧
      (let off := { slotB with enables := List.replicate 256 false }
       off.enables.length = 256 ∧ ∀ k < entryB.size.chunks, ∀ n < 32, off.enables.getD (32 * k + n) false = false) := by
  decide +kernel

/-- Bank 6 OPEN on page 9 with the entries given. -/
def onBank6 (l : List Entry) : State :=
  withPort { serving with sched := { serving.sched with list := l } } fun p => { p with banks := p.banks.set 6 (openBank 9) }

/-- In HALTING: an OPEN wanted by entry C, a pull-in renew, and the halt close of bank 9. -/
theorem witness_IssueGateChoosesBest :
    (busy.choice.isSome ∧ serving.choice = none ∧
      (withPort busy fun p => { p with history := [1, 2, 3, 4] }).port.history.length ≤ 4 ∧
      (∃ c ∈ busy.cands, busy.permitted c = true)) ∧
    (let e := { entryC with state := .waiting }
     let s := withPort (onBank6 [e]) fun p => { p with direction := .write, lastAccess := some 999995 }
     s.turnHeld { bank := 6, op := .access e, rank := [] } = true ∧
       ({ s with now := 1000005 } : State).turnHeld { bank := 6, op := .access e, rank := [] } = false) ∧
    (let s := withDebt (withPort busy fun p => { p with mode := .halting, banks := p.banks.set 9 (openBank 5) }) 2 (-3)
     s.sched.list.Pairwise (fun x y => x.id < y.id) ∧ (∀ b, (s.ren.records.get b).debt ≤ 8) ∧
       s.Presents 6 (.sched (.openFor entryC)) ∧ s.Presents 2 (.renewal .renew) ∧ s.Presents 9 .haltClose) := by
  refine ⟨by decide +kernel, by decide +kernel, by decide +kernel, by decide +kernel, ?_, ?_, ?_⟩ <;>
    simp only [State.Presents] <;> decide +kernel

/-- A hit, a miss and an overdue miss of bank 6, page 9. -/
theorem witness_SchedulerWants :
    let hit := entryC
    let miss := { entryC with id := 3, page := 8 }
    let overdue := { miss with overdue := true }
    let rdy : State → List Entry := fun s => s.sched.list.filter fun e => e.bank = 6 && s.ready e
    chosen [hit, miss, overdue] = some overdue ∧ (withDebt serving 6 6).urgent 6 = true ∧
      ((withDebt serving 6 5).urgent 6 = false ∧ (serving.bank 6).openPage = none) ∧
      ((onBank6 [hit, overdue]).urgent 6 = false ∧ ((onBank6 [hit, overdue]).bank 6).openPage = some 9 ∧
        rdy (onBank6 [hit, overdue]) = [hit, overdue]) ∧
      rdy (onBank6 [hit, miss]) = [hit, miss] ∧ rdy (onBank6 [miss]) = [miss] ∧ rdy (onBank6 []) = [] ∧
      (let s := onBank6 []
       let t := { s with sched := { s.sched with closeAfter := s.sched.closeAfter.set 6 true } }
       rdy t = [] ∧ t.sched.closeAfter.get 6 = true ∧ ∀ e ∈ t.sched.list, ¬(e.bank = 6 ∧ e.page = 9)) ∧
      (let s := onBank6 []
       let t := { s with sched := { s.sched with idle := s.sched.idle.set 6 .expired } }
       rdy t = [] ∧ t.sched.closeAfter.get 6 = false ∧ t.sched.idle.get 6 = .expired) := by decide +kernel

/-- Urgent level 6: debts 6, 5, 1, 0, −3 and −4, in the bank states of the rule. -/
theorem witness_RenewalWants :
    State.reset.port.mode = .init ∧ retained.port.mode = .held ∧ waking.port.mode = .waking ∧
      (timers.bank 15).state = .renewing ∧ (retained.bank 0).state = .held ∧
      ({ serving with ren := { serving.ren with
          records := serving.ren.records.set 0 { debt := 0, exempt := true, lapse := false } } } : State).ren.records.get 0
        = { debt := 0, exempt := true, lapse := false } ∧
      (serving.port.mode = .run ∧ (1 : Int) ≤ serving.timing.urgentLevel) ∧
      (((withDebt timers 0 6).ren.records.get 0).debt = serving.timing.urgentLevel ∧ (timers.bank 0).state = .opening) ∧
      (((withDebt timers 3 6).ren.records.get 3).debt = serving.timing.urgentLevel ∧ (timers.bank 3).state = .closing) ∧
      (((withDebt timers 0 5).ren.records.get 0).debt < serving.timing.urgentLevel ∧ (timers.bank 0).state ≠ .renewing ∧
        (timers.bank 0).state ≠ .held) ∧
      (((withDebt serving 4 (-3)).ren.records.get 4).debt = -3 ∧ (serving.bank 4).state = .closed ∧
        ∀ e ∈ serving.sched.list, e.bank ≠ 4) ∧
      (((withDebt busy 6 0).ren.records.get 6).debt = 0 ∧ ∃ e ∈ busy.sched.list, e.bank = 6) ∧
      (serving.ren.records.get 4).debt < -3 := by decide +kernel

theorem witness_SettleFrame :
    busy.mgmt.commit.state = .none ∧ busy.mgmt.part.stage = none ∧ busy.port.holdReq = false := by decide +kernel

/-- The request that `readBody` spells. -/
def readReq (tag : Byte) : DataReq where
  requester := 1
  tag := tag
  address := 131072
  size := .c1
  priority := .normal
  data := []
  enables := []

/-- The request that `writeBody` spells. -/
def writeReq (r : ReqNo) (tag : Byte) : DataReq where
  requester := r
  tag := tag
  address := 131072
  size := .c1
  priority := .normal
  data := List.replicate 32 0x55
  enables := List.replicate 32 true

/-- Window 0 of `tables`. -/
def window0 : Window := { Window.reset with valid := true, sizeExp := 10, readSet := 0xFFFF, writeSet := 0x0006 }

theorem arrives (s : State) (k : ReqKind) (kind : Byte) (body : List Byte) (h1 : s.rst = none)
    (h2 : s.adm.replyHold = none) (h3 : dataKind kind = some k) : (withRx s kind body).Arrives k body :=
  ⟨h1, h2, ⟨kind, body⟩, by simp [withRx, RxFrame.isData, h3], h3, rfl⟩

theorem passesRead (s : State) (tag : Byte) (h : s.mgmt.active = tables) (hp : s.AdmissionOpen)
    (hb : parseReq .read (readBody tag) = some (readReq tag)) : s.PassesAccess .read (readBody tag) (readReq tag) window0 := by
  refine ⟨⟨hp, hb, ?_⟩, ⟨0, ?_, ?_, ?_⟩, ?_⟩
  · rw [h]; show (tables.requesters.get 1).enabled = true; decide
  · rw [h]; decide
  · show window0.contains (131072 - 131072 % (BlockSize.bytes .c1)) (BlockSize.bytes .c1) = true; decide +kernel
  · exact fun j hj => absurd hj (by simp)
  · show window0.readSet.getLsbD 1 = true; decide

theorem passesWrite (s : State) (tag : Byte) (h : s.mgmt.active = tables) (hp : s.AdmissionOpen)
    (hb : parseReq .write (writeBody 1 tag) = some (writeReq 1 tag)) :
    s.PassesAccess .write (writeBody 1 tag) (writeReq 1 tag) window0 := by
  refine ⟨⟨hp, hb, ?_⟩, ⟨0, ?_, ?_, ?_⟩, ?_⟩
  · rw [h]; show (tables.requesters.get 1).enabled = true; decide
  · rw [h]; decide
  · show window0.contains 131072 (BlockSize.bytes .c1) = true; decide +kernel
  · exact fun j hj => absurd hj (by simp)
  · show window0.writeSet.getLsbD 1 = true; decide

/-- A full list, and a full write data buffer. -/
def fullList : State := { serving with sched := { serving.sched with list := List.replicate 64 entryC } }
def fullSlots : State := { serving with adm := { serving.adm with slots := Table.fill 32 (some slotB) } }

/-- A request of kind `k` arrives at `s` and is refused for the reason given. -/
def Meets (s : State) (k : ReqKind) (kind : Byte) (body : List Byte) (reason : RefuseReason) : Prop :=
  (withRx s kind body).Arrives k body ∧ (withRx s kind body).Refuses k body reason

/-- One state and request for each of the ten reasons. -/
theorem witness_RequestRefused :
    Meets (withPart serving .starting) .read 0x10 (readBody 7) .notReady ∧
    Meets (withMgmt serving fun m => { m with commit := { state := .listWait, mapChange := true, replyOwed := none } })
      .read 0x10 (readBody 7) .notReady ∧
    Meets (withPart serving .draining) .read 0x10 (readBody 7) .retained ∧
    Meets serving .read 0x10 [1, 7] .malformed ∧
    Meets serving .read 0x10 [3, 7, 0, 0, 2, 0, 0, 0, 0] .requesterOff ∧
    Meets serving .read 0x10 [1, 7, 0, 0x40, 0, 0, 0, 0, 0] .noWindow ∧
    Meets serving .write 0x11 ([0, 7, 0, 0, 2, 0, 0, 0, 0] ++ List.replicate 32 0x55) .denied ∧
    Meets busy .read 0x10 (readBody 4) .tagInUse ∧ Meets busy .read 0x10 (readBody 7) .quota ∧
    Meets fullList .read 0x10 (readBody 7) .full ∧ Meets fullSlots .write 0x11 (writeBody 1 7) .noWriteSlot := by
  have read : ∀ s body, s.rst = none → s.adm.replyHold = none → (withRx s 0x10 body).Arrives .read body :=
    fun s body h1 h2 => arrives s .read 0x10 body h1 h2 (by decide)
  have write : ∀ s body, s.rst = none → s.adm.replyHold = none → (withRx s 0x11 body).Arrives .write body :=
    fun s body h1 h2 => arrives s .write 0x11 body h1 h2 (by decide)
  refine ⟨⟨read _ _ rfl rfl, .inl (by decide)⟩, ⟨read _ _ rfl rfl, .inr (.inr (by decide))⟩,
    ⟨read _ _ rfl rfl, .inl (by decide)⟩, ⟨read _ _ rfl rfl, by decide, by decide⟩, ⟨read _ _ rfl rfl, by decide, ?_⟩,
    ⟨read _ _ rfl rfl, ?_⟩, ⟨write _ _ rfl rfl, ?_⟩,
    ⟨read _ _ rfl rfl, _, _, passesRead _ 4 rfl (by decide) (by decide +kernel), by decide +kernel⟩,
    ⟨read _ _ rfl rfl, _, _, passesRead _ 7 rfl (by decide) (by decide +kernel), by decide +kernel, by decide +kernel,
      by decide +kernel⟩,
    ⟨read _ _ rfl rfl, _, _, ⟨passesRead _ 7 rfl (by decide) (by decide +kernel), by decide +kernel,
      .inr (by decide +kernel)⟩, by decide +kernel⟩,
    ⟨write _ _ rfl rfl, _, _, ⟨passesWrite _ 7 rfl (by decide) (by decide +kernel), by decide +kernel,
      .inr (by decide +kernel)⟩, by decide +kernel, by decide, by decide +kernel⟩⟩
  · exact ⟨{ readReq 7 with requester := 3 }, by decide +kernel, by decide +kernel⟩
  · exact ⟨{ readReq 7 with address := 1073741824 }, ⟨by decide, by decide +kernel, by decide +kernel⟩, by decide +kernel⟩
  · exact ⟨writeReq 0 7, window0, ⟨by decide, by decide +kernel, by decide +kernel⟩,
      ⟨0, by decide +kernel, by decide +kernel, fun j hj => absurd hj (by simp)⟩, by decide +kernel⟩

/-- A read, a write that holds its tag, a detached write and a masked write. -/
theorem witness_RequestAdmitted :
    ((withRx serving 0x10 (readBody 7)).Arrives .read (readBody 7) ∧
      (withRx serving 0x10 (readBody 7)).Admits .read (readBody 7) (readReq 7) window0) ∧
    ((withRx serving 0x11 (writeBody 1 7)).Arrives .write (writeBody 1 7) ∧
      (withRx serving 0x11 (writeBody 1 7)).Admits .write (writeBody 1 7) (writeReq 1 7) window0) ∧
    ((withRx serving 0x11 (writeBody 2 20)).Arrives .write (writeBody 2 20) ∧
      (withRx serving 0x11 (writeBody 2 20)).Admits .write (writeBody 2 20) (writeReq 2 20) window0) ∧
    (let body := writeBody 2 20 ++ [0xFF, 0xFF, 0xFF, 0xFF]
     (withRx serving 0x12 body).Arrives .masked body ∧
      (withRx serving 0x12 body).Admits .masked body (writeReq 2 20) window0) := by
  refine ⟨⟨arrives _ _ _ _ (by decide) (by decide) (by decide), ?_⟩,
    ⟨arrives _ _ _ _ (by decide) (by decide) (by decide), ?_⟩,
    ⟨arrives _ _ _ _ (by decide) (by decide) (by decide), ?_⟩, arrives _ _ _ _ (by decide) (by decide) (by decide), ?_⟩
  · exact ⟨⟨passesRead _ 7 rfl (by decide) (by decide +kernel), by decide +kernel, .inr (by decide +kernel)⟩,
      by decide +kernel, .inl rfl⟩
  · exact ⟨⟨passesWrite _ 7 rfl (by decide) (by decide +kernel), by decide +kernel, .inr (by decide +kernel)⟩,
      by decide +kernel, .inr ⟨0, by decide +kernel⟩⟩
  · exact ⟨⟨⟨⟨by decide, by decide +kernel, by decide +kernel⟩,
        ⟨0, by decide +kernel, by decide +kernel, fun j hj => absurd hj (by simp)⟩, by decide +kernel⟩,
      by decide +kernel, .inl ⟨by decide, by decide +kernel⟩⟩, by decide +kernel, .inr ⟨0, by decide +kernel⟩⟩
  · exact ⟨⟨⟨⟨by decide, by decide +kernel, by decide +kernel⟩,
        ⟨0, by decide +kernel, by decide +kernel, fun j hj => absurd hj (by simp)⟩, by decide +kernel⟩,
      by decide +kernel, .inl ⟨by decide, by decide +kernel⟩⟩, by decide +kernel, .inr ⟨0, by decide +kernel⟩⟩

/-- A read, a write and a masked write that parse, and the last requester's 8-chunk bodies. -/
theorem witness_RequestForm :
    parseReq .read (readBody 7) = some (readReq 7) ∧ parseReq .write (writeBody 1 7) = some (writeReq 1 7) ∧
      parseReq .masked (writeBody 1 7 ++ [255, 255, 255, 255]) = some (writeReq 1 7) ∧
      (let address : List Byte := [255, 255, 255, 255, 0]
       address.length = 5 ∧ natOfBytes address % 32 = 0 ∧ natOfBytes address % (BlockSize.chunks .c8 * 32) = 0 ∧
         (List.replicate 288 (0 : Byte)).length = BlockSize.chunks .c8 * 36 ∧
         (List.replicate 256 (0 : Byte)).length = BlockSize.chunks .c8 * 32) := by decide +kernel

theorem witness_CancelOutcomes :
    (∀ body ∈ ([[], [1], [1, 4, 0], [16, 4], [2, 9], [1, 4], [15, 0]] : List (List Byte)),
      let s := withRx busy 0x18 body
      s.rst = none ∧ s.sched.cancelHold = none ∧ s.link.rx.find? RxFrame.isCancel = some ⟨0x18, body⟩) ∧
    (let find : ReqNo → Byte → Option Entry := fun r tag =>
       busy.sched.list.find? fun x => x.requester = r && x.tag = tag && x.tagHeld
     find 2 9 = some entryC ∧ entryC.state = .waiting ∧ find 1 4 = some entryA ∧ entryA.state = .issued ∧
       find 15 0 = none ∧ (0 : Byte) ∉ busy.adm.tags.get 15) ∧
    (let s := { busy with sched := { busy.sched with list := [entryC] } }
     (∀ e ∈ s.sched.list, ¬(e.requester = 1 ∧ e.tag = 4 ∧ e.tagHeld = true)) ∧ (4 : Byte) ∈ s.adm.tags.get 1) := by
  decide +kernel

theorem witness_HazardLinks :
    youngestConflict [entryA] entryB = some 0 ∧ youngestConflict [entryA, entryB] entryC = none ∧ busy.sched.Ok ∧
      busy.sched.list = [] ++ entryA :: [entryB, entryC] ∧ entryA.state = .issued ∧
      busy.sched.list = [entryA, entryB] ++ entryC :: [] ∧ entryC.eligible = true := by decide +kernel

/-- The entry C of an UNORDERED requester is no head read; A is one while it waits without a slot, and a younger read of its
requester is none. -/
theorem witness_HeadReserve :
    let a := { entryA with state := .waiting, respSlot := none }
    let s := { busy with sched := { busy.sched with list := [a, { a with id := 1, page := 8 }, entryC], nextId := 4 } }
    busy.sched.Ok ∧ entryC ∈ busy.sched.list ∧ s.sched.Ok ∧ s.headRead a = true ∧
      s.headRead { a with id := 1, page := 8 } = false ∧ s.headRead entryC = false ∧ s.headReads = 1 ∧ s.freeSlots = 31 ∧
      s.ready a = true ∧ s.ready entryC = true := by decide +kernel

theorem witness_CandidateAndDataFrame :
    candidateIn [{ tag := 4, mode := .ordered, state := .owed }, { tag := 9, mode := .unordered, state := .void }] =
        some { tag := 9, mode := .unordered, state := .void } ∧
      [CheckResult.clean, .clean, .corrected, .poisoned].length = entryA.slotOwner.size.chunks ∧
      entryA.slotOwner.lead < entryA.slotOwner.size.chunks := by decide +kernel

theorem transmits (s : State) (h1 : s.rst = none) (h2 : s.mgmt.resetTaken = false) : s.Transmits := ⟨h1, h2⟩

theorem witness_ControlFramesAndResends :
    State.reset.Transmits ∧ State.reset.link.state = .down ∧ serving.Transmits ∧
    (let s := withLink serving fun l => { l with state := .training }
     s.Transmits ∧ s.link.state ≠ .up ∧ s.link.answers = [] ∧ s.link.offers = 0) ∧
    (let s := withLink serving fun l => { l with answers := [{ mode := .new, session := 1, expect := 0 }] }
     s.Transmits ∧ s.link.state ≠ .down ∧ s.link.answers = { mode := .new, session := 1, expect := 0 } :: []) ∧
    (let s := withLink serving fun l => { l with state := .recovery, offers := 1 }
     s.Transmits ∧ s.link.state ≠ .down ∧ s.link.answers = [] ∧ 0 < s.link.offers) ∧
    (let s := withLink serving fun l => { l with replays := [11], updateOwed := true }
     s.Transmits ∧ s.link.state = .up ∧ s.link.answers = [] ∧ s.link.offers = 0 ∧ s.link.replays = 11 :: []) ∧
    (let s := withLink serving fun l => { l with updateOwed := true }
     s.Transmits ∧ s.link.state = .up ∧ s.link.replays = [] ∧ s.link.updateOwed = true) ∧
    (let s := withLink ring40 fun l => { l with resend := some 43 }
     s.Transmits ∧ s.link.state = .up ∧ s.link.replays = [] ∧ s.link.updateOwed = false ∧ s.link.resend = some 43 ∧
       s.link.ring[((43 : Byte) - (s.link.nextSeq - byteOf s.link.ring.length)).toNat]? = some (.void 0 43)) := by
  refine ⟨⟨rfl, rfl⟩, rfl, ⟨rfl, rfl⟩, ⟨⟨rfl, rfl⟩, ?_⟩, ⟨⟨rfl, rfl⟩, ?_⟩, ⟨⟨rfl, rfl⟩, ?_⟩, ⟨⟨rfl, rfl⟩, ?_⟩,
    ⟨⟨rfl, rfl⟩, ?_⟩, ⟨rfl, rfl⟩, ?_⟩ <;> decide +kernel

/-- `serving`, with any change that leaves the link and the reset as they are, may send a new frame. -/
theorem sendsNew (s : State) (h1 : s.rst = none) (h2 : s.mgmt.resetTaken = false) (h3 : s.link = serving.link) :
    s.SendsNew := by
  constructor
  · exact ⟨h1, h2⟩
  all_goals rw [h3]; decide +kernel

/-- A BUSY reply of `witness_NewFramesByRank`, and a notice. -/
def busyReply (ahead : Nat) : BusyReply := { frame := .manageReply ⟨0, 7, 0, 0x49, 0⟩ .busy .none 0 [], ahead := ahead }
def aNotice : Notice := { number := 27, report := .linkRecovery .ackTimeout, dropped := 0 }

theorem witness_NewFramesByRank :
    (let s := withLink ring40 fun l => { l with sendLimit := 4 }
     s.Transmits ∧ s.link.state = .up ∧ s.link.answers = [] ∧ s.link.offers = 0 ∧ s.link.replays = [] ∧
       s.link.updateOwed = false ∧ s.link.resend = none ∧ min 32 s.link.sendLimit.toNat ≤ s.link.ring.length) ∧
    (let s := withMgmt serving fun m => { m with busyHold := some (busyReply 0) }
     s.SendsNew ∧ s.mgmt.busyHold = some (busyReply 0) ∧ (busyReply 0).ahead = 0) ∧
    (let s := withMgmt serving fun m => { m with busyHold := some (busyReply 1), replies := [.void 0 0] }
     s.SendsNew ∧ s.mgmt.busyHold = some (busyReply 1) ∧ 0 < (busyReply 1).ahead ∧ s.mgmt.replies = .void 0 0 :: []) ∧
    (let s := withMgmt serving fun m => { m with replies := [.void 0 0] }
     s.SendsNew ∧ s.mgmt.busyHold = none ∧ s.mgmt.replies = .void 0 0 :: []) ∧
    (let s := withMgmt serving fun m => { m with notices := [aNotice] }
     s.SendsNew ∧ s.mgmt.busyHold = none ∧ s.mgmt.replies = [] ∧ s.mgmt.notices = aNotice :: [] ∧ s.link.live = true) ∧
    (let s : State := { serving with
       adm := { serving.adm with replyHold := some (.void 0 1) }
       sched := { serving.sched with cancelHold := some (.void 0 2) } }
     s.SendsNew ∧ s.NoRank3 ∧ s.adm.replyHold = some (.void 0 1) ∧ s.link.replyTurn = .refuse) ∧
    (let s : State := { serving with sched := { serving.sched with cancelHold := some (.void 0 2) } }
     s.SendsNew ∧ s.NoRank3 ∧ s.sched.cancelHold = some (.void 0 2) ∧ s.adm.replyHold = none) ∧
    (serving.SendsNew ∧ serving.NoRank3 ∧ serving.adm.replyHold = none ∧ serving.sched.cancelHold = none ∧
      ∀ r, serving.candidate r = none) := by
  refine ⟨⟨⟨rfl, rfl⟩, ?_⟩, ⟨sendsNew _ rfl rfl rfl, ?_⟩, ⟨sendsNew _ rfl rfl rfl, ?_⟩, ⟨sendsNew _ rfl rfl rfl, ?_⟩,
    ⟨sendsNew _ rfl rfl rfl, ?_⟩, ⟨sendsNew _ rfl rfl rfl, ⟨rfl, rfl, .inl rfl⟩, ?_⟩,
    ⟨sendsNew _ rfl rfl rfl, ⟨rfl, rfl, .inl rfl⟩, ?_⟩, sendsNew _ rfl rfl rfl, ⟨rfl, rfl, .inl rfl⟩, ?_⟩ <;> decide +kernel

/-- `busy` with requester 2's place READY with the frame given. -/
def readyTwo (st : PlaceState) : State :=
  { busy with
    resp :=
      { slots := busy.resp.slots.set 31 (.filled entryC.slotOwner (List.replicate 32 1) [.clean] false)
        orders := busy.resp.orders.set 2 [{ tag := 9, mode := .unordered, state := st }] } }

theorem witness_FinalResponseReleased :
    ∀ st ∈ [PlaceState.done .ok, .void, .data .ok 31 []],
      (readyTwo st).SendsNew ∧ (readyTwo st).NoRank3 ∧ (readyTwo st).adm.replyHold = none ∧
        (readyTwo st).sched.cancelHold = none ∧ (∀ m < 2, (readyTwo st).candidate ((readyTwo st).link.rr + m) = none) ∧
        (readyTwo st).candidate ((readyTwo st).link.rr + 2) = some { tag := 9, mode := .unordered, state := st } ∧
        (readyTwo st).resp.slots.get 31 = .filled entryC.slotOwner (List.replicate 32 1) [.clean] false := by
  intro st h
  refine ⟨sendsNew _ rfl rfl rfl, ⟨rfl, rfl, .inl rfl⟩, rfl, rfl, ?_⟩
  revert st
  decide +kernel

/-- A sequenced frame of sequence `seq`, in the part's ack window, and one of unknown kind. -/
def seqFrame (kind seq : Byte) : Frame := { kind := kind, seq := seq, ack := 255, credit := 9, body := readBody 7 }

/-- The distances 0, 127 and 128 from E = 0, a full buffer, an ack outside the window, and bytes that fail the check. -/
theorem witness_InboundFrameRows :
    (∀ f ∈ [seqFrame 0x10 0, seqFrame 0x60 0, seqFrame 0x10 127, seqFrame 0x10 128],
      serving.rst = none ∧ parseFrame f.bytes = some f ∧ isControl f.kind = false ∧ serving.link.state = .up ∧
        serving.link.inWindow f.ack = true) ∧
      serving.link.rx.length < 8 ∧ hasDestination 0x10 = true ∧ hasDestination 0x60 = false ∧
      (withLink serving fun l => { l with rx := List.replicate 8 ⟨0x10, []⟩ }).link.rx.length = 8 ∧
      serving.link.inWindow 0 = false ∧ State.reset.link.state ≠ .up ∧
      parseFrame [0x10, 11, 0, 0, 1, 2, 3, 4] = none ∧ serving.link.replayMark = none ∧
      (withLink serving fun l => { l with replayMark := some 0 }).link.replayMark ≠ none := by decide +kernel

/-- An ACK of the part's frames. -/
def ackFrame (ack : Byte) : Frame := { kind := 0x70, seq := 0, ack := ack, credit := 8, body := [] }

/-- Acks that remove none, all and too many of the ring's frames 40 to 43. -/
theorem witness_AckTrimsRing :
    (∀ a ∈ ([39, 43, 44] : List Byte), parseFrame (ackFrame a).bytes = some (ackFrame a) ∧ (ackFrame a).kind = kindAck) ∧
      ring40.rst = none ∧ ring40.link.state = .up ∧ State.reset.link.state ≠ .up ∧
      ([39, 43, 44] : List Byte).map (fun a =>
        ((ackFrame a).ack - ((ring40.link.nextSeq - byteOf ring40.link.ring.length) - 1)).toNat) = [0, 4, 5] := by
  decide +kernel

/-- A REPLAY that names a frame of the ring, the number after it, one whose ack is outside the window, and one with no
body. -/
theorem witness_HostReplayMovesResendPoint :
    let f : Byte → Byte → Frame := fun a n => { kind := 0x71, seq := 0, ack := a, credit := 8, body := [n] }
    (parseFrame (f 39 43).bytes = some (f 39 43) ∧ parseFrame (f 39 44).bytes = some (f 39 44) ∧
      parseFrame (f 44 43).bytes = some (f 44 43)) ∧ (f 39 43).kind = kindReplay ∧ (f 39 43).body = [43] ∧
      ring40.rst = none ∧ ring40.link.state = .up ∧ ring40.link.inWindow 39 = true ∧ ring40.link.inWindow 44 = false ∧
      (let l := (ring40.takeAckCredit (f 39 43)).link
       ((43 : Byte) - (l.nextSeq - byteOf l.ring.length)).toNat < l.ring.length ∧
         ¬((44 : Byte) - (l.nextSeq - byteOf l.ring.length)).toNat < l.ring.length) ∧
      (let g : Frame := { f 39 43 with body := [] }
       parseFrame g.bytes = some g ∧ g.kind = kindReplay ∧ g.body.length ≠ 1 ∧ ring40.link.inWindow g.ack = true) := by
  decide +kernel

theorem witness_AckTimerExpires :
    ring40.rst = none ∧ ring40.link.state = .up ∧ ring40.link.ackTimer = some 1020000 ∧
      (withLink ring40 fun l => { l with expiries := 2 }).link.expiries < 3 ∧
      3 ≤ (withLink ring40 fun l => { l with expiries := 3 }).link.expiries := by decide +kernel

/-- `ring40` with a hold time of 0. -/
def holdZero : State :=
  withMgmt ring40 fun m => { m with active := { m.active with link := { m.active.link with holdTime := 0 } } }

theorem witness_RecoveryEntry :
    ring40.mgmt.resetTaken = false ∧ ring40.mgmt.active.link.holdTime * 1000 ≠ 0 ∧
      holdZero.mgmt.active.link.holdTime * 1000 = 0 ∧ holdZero.link.live = true ∧
      (withMgmt ring40 fun m => { m with resetTaken := true }).mgmt.resetTaken = true ∧
      (let s := withMgmt holdZero fun m => { m with resetTaken := true }
       s.mgmt.resetTaken = true ∧ s.mgmt.active.link.holdTime * 1000 = 0 ∧ s.link.live = true) := by decide +kernel

/-- A host TRAIN with a last accepted sequence, a mode and a session number. -/
def train (ack session mode : Byte) : Frame :=
  { kind := 0x72, seq := 0, ack := ack, credit := 6, body := [0, session, mode, 0] }

/-- In RECOVERY: a RESUME that acknowledges the whole ring, one past it, and a NEW; in UP a RESUME and a NEW; in DOWN a NEW
with a live session; a NEW with none; and a TRAIN of 3 body bytes. -/
theorem witness_TrainResumesOrOpens :
    (∀ f ∈ [train 43 3 1, train 44 3 1, train 0 0 0], parseFrame f.bytes = some f ∧ f.kind = kindTrain) ∧
      (let s := withLink ring40 fun l => { l with state := .recovery, ackTimer := none }
       s.rst = none ∧ s.link.state ≠ .up ∧ s.link.live = true ∧ s.link.session = 3 ∧ s.link.ring.length = 4 ∧
         ((43 : Byte) - ((s.link.nextSeq - byteOf s.link.ring.length) - 1)).toNat = 4 ∧
         ((44 : Byte) - ((s.link.nextSeq - byteOf s.link.ring.length) - 1)).toNat = 5) ∧
      (ring40.link.state = .up ∧ ring40.link.live = true ∧ ring40.link.session = 3) ∧
      ((withLink ring40 fun l => { l with state := .down }).link.state = .down) ∧
      (withLink ring40 fun l => { l with state := .recovery, live := false }).link.live = false ∧
      (let f := { train 43 3 1 with body := [0, 3, 1] }
       parseFrame f.bytes = some f ∧ f.kind = kindTrain ∧ f.body.length ≠ 4) := by decide +kernel

theorem witness_SessionLoss :
    (let s := withLink busy fun l => { l with state := .recovery, holdTimer := some 1000010 }
     s.rst = none ∧ s.link.holdTimer = some 1000010 ∧ s.link.live = true) ∧
    (let s := withLink busy fun l => { l with state := .recovery, holdTimer := some 1000010, live := false }
     s.rst = none ∧ s.link.holdTimer = some 1000010 ∧ s.link.live = false) ∧
    (busy.adm.slots.get 5 = some slotB ∧ ∃ e ∈ busy.sched.list, e.id = slotB.owner ∧ e.state = .waiting) ∧
    (merging.adm.slots.get 5 = some slotB ∧ ∀ e ∈ merging.sched.list, e.id = slotB.owner → e.state = .issued) ∧
    ∀ e ∈ busy.sched.list, e.state = .issued → e.blockedBy = none := by decide +kernel

theorem witness_LinkSignalAndTimers :
    (State.reset.rst = none ∧ State.reset.laneSignal = false ∧ State.reset.link.state = .down) ∧
    (serving.rst = none ∧ serving.laneSignal = true ∧ serving.link.state = .up) ∧
    (let s := withLink serving fun l =>
       { l with state := .training, offerTimer := some 1100000, stateTimer := some 9000000, markTimer := some 5 }
     s.rst = none ∧ s.link.state = .training ∧ s.link.offerTimer = some 1100000 ∧ s.link.stateTimer = some 9000000 ∧
       s.link.markTimer = some 5) ∧
    (let s := withLink serving fun l => { l with state := .recovery, stateTimer := some 3000000 }
     s.rst = none ∧ s.link.state = .recovery ∧ s.link.stateTimer = some 3000000) := by decide +kernel

theorem witness_LayoutsRoundTrip :
    (List.replicate 312 (0 : Byte)).length ≤ 312 ∧ parseFrame (ackFrame 0).bytes = some (ackFrame 0) ∧
      parseTiming Timing.reset.bytes = some Timing.reset ∧ Timing.reset.badField = none ∧
      parseWindow window0.bytes = some window0 ∧
      (let w := { window0 with sizeExp := 10, logicalBase := 1048575, physicalBase := 1023 }
       w.sizeExp ≤ 10 ∧ w.logicalBase ≤ 1048575 ∧ w.physicalBase ≤ 1023) ∧
      parseRequester (Requester.reset 0).bytes = some (Requester.reset 0) ∧
      (let r := { Requester.reset 0 with quota := 64, ageLimit := 255 }
       r.quota ≤ 64 ∧ 1 ≤ r.ageLimit ∧ r.ageLimit ≤ 255) ∧
      parseLinkSettings [0, 20, 3, 232] = some Objects.reset.link ∧
      (let l : LinkSettings := { ackTimeout := 1023, holdTime := 65535 }
       1 ≤ l.ackTimeout ∧ l.ackTimeout ≤ 1023 ∧ l.holdTime ≤ 65535) ∧
      parseNoticeSettings [15, 0xFB] = some { destination := 15, enables := 0xFB } := by decide +kernel

theorem witness_ManageFrameTaken :
    (∀ body ∈ ([manage 0 0x49 0 [], [0, 7]] : List (List Byte)),
      let s := withRx (withMgmt serving fun m => { m with queue := List.replicate 4 [] }) 0x20 body
      s.rst = none ∧ s.link.rx.find? RxFrame.isManage = some ⟨0x20, body⟩ ∧ s.mgmt.queue.length = 4 ∧
        s.mgmt.busyHold = none) ∧
      (manage 0 0x49 0 []).length = 7 ∧ serving.mgmt.queue.length < 4 ∧
      (withMgmt serving fun m => { m with busyHold := some (busyReply 0) }).mgmt.busyHold ≠ none := by decide +kernel

/-- `takes`, with the result of the tests. -/
theorem taken (s : State) (row : Row) (body : List Byte) (r : Option MStatus) (h1 : s.rst = none)
    (h2 : s.mgmt.replies = []) (h3 : s.mgmt.resetTaken = false) (h4 : rowOf body = row ∧ 5 ≤ body.length)
    (h5 : (asked s body).requestTests body = r) :
    (asked s body).Takes row body [] ∧ (asked s body).requestTests body = r :=
  ⟨takes s row body h1 h2 h3 h4.1 h4.2, h5⟩

/-- A commit in progress. -/
def committing : State :=
  withMgmt serving fun m => { m with commit := { state := .listWait, mapChange := true, replyOwed := none } }

/-- A failing request of each row, one of no row, and a body of 4 bytes. -/
theorem witness_FailingRequestChangesNothing :
    ((asked serving (manage 0 0x60 0 [])).Takes .get (manage 0 0x60 0 []) [] ∧
      (asked serving (manage 0 0x60 0 [])).requestTests (manage 0 0x60 0 []) = some .unknownObject) ∧
    ((asked committing (manage 1 0x11 1 [])).Takes .set (manage 1 0x11 1 []) [] ∧
      (asked committing (manage 1 0x11 1 [])).requestTests (manage 1 0x11 1 []) = some .busy) ∧
    ((asked serving (manage 4 2 0 [1, 0])).Takes .enterRetain (manage 4 2 0 [1, 0]) [] ∧
      (asked serving (manage 4 2 0 [1, 0])).requestTests (manage 4 2 0 [1, 0]) = some .badValue) ∧
    (asked serving (manage 5 2 0 [1])).Takes .unknown (manage 5 2 0 [1]) [] ∧
    (asked serving [0, 7, 0, 0x49]).mgmt.queue = [[0, 7, 0, 0x49]] := by
  refine ⟨taken _ _ _ _ rfl rfl rfl ⟨?_, ?_⟩ ?_, taken _ _ _ _ rfl rfl rfl ⟨?_, ?_⟩ ?_,
    taken _ _ _ _ rfl rfl rfl ⟨?_, ?_⟩ ?_, takes _ _ _ rfl rfl rfl ?_ ?_, rfl⟩ <;> decide +kernel

/-- Each value at a bound of its fields, and one past it (R17, R33, R42, R130, R186). -/
theorem test_set_value_bounds :
    let timing : List Byte → List Byte := fun rate =>
      (List.replicate 9 [(3 : Byte), 255]).flatten ++ [0, 0, 3, 255, 128] ++ rate ++ [8, 0, 0, 1]
    setValueGood .timing (timing [4]) = true ∧ setValueGood .timing (timing [3]) = false ∧
      setValueGood (.window 0) [1, 10, 15, 255, 255, 3, 255, 0, 0, 0, 0, 1, 1] = true ∧
      setValueGood (.window 0) [1, 11, 15, 255, 255, 3, 255, 0, 0, 0, 0, 1, 1] = false ∧
      setValueGood (.window 0) [1, 10, 16, 0, 0, 3, 255, 0, 0, 0, 0, 1, 1] = false ∧
      setValueGood (.window 0) [1, 10, 15, 255, 255, 4, 0, 0, 0, 0, 0, 1, 1] = false ∧
      setValueGood (.requester 0) [1, 1, 64, 1, 1, 1, 1] = true ∧
      setValueGood (.requester 0) [1, 1, 65, 1, 1, 1, 1] = false ∧
      setValueGood (.requester 0) [1, 1, 64, 1, 1, 1, 0] = false ∧
      setValueGood (.requester 0) [1, 1, 64, 2, 1, 1, 1] = false ∧
      setValueGood .linkSettings [3, 255, 255, 255] = true ∧ setValueGood .linkSettings [4, 0, 0, 0] = false ∧
      setValueGood .linkSettings [0, 0, 0, 0] = false ∧ setValueGood .noticeSettings [15, 255] = true ∧
      setValueGood .noticeSettings [16, 255] = false ∧ setValueGood .ident [] = false := by decide +kernel

/-- A GET, a SET, a COMMIT and three ACTIONs that pass test 1, of a manager and of requester 1, and the objects they name;
requester 15 and length 7 at the bounds of test 1. -/
theorem witness_RequestTestOrder :
    7 ≤ (manage 0 0x40 0 []).length ∧ (manage 0 0x40 0 [])[0]? = some (byteOf 0) ∧
      ([15, 7, 0, 0x40, 15, 0, 0] : List Byte)[0]? = some (byteOf 15) ∧ mopOf [15, 7, 0, 0x40, 15, 0, 0] = .get ∧
      idxOf [15, 7, 0, 0x40, 15, 0, 0] = Obj.lastIndex .renewalStatus ∧
      ¬idxOf [15, 7, 0, 0x40, 16, 0, 0] ≤ Obj.lastIndex .renewalStatus ∧ objectOf 0x40 = some .renewalStatus ∧
      (serving.mgmt.active.requesters.get 0).enabled = true ∧ (serving.mgmt.active.requesters.get 0).manager = true ∧
      (serving.mgmt.active.requesters.get 1).manager = false ∧ committing.mgmt.commit.state ≠ .none ∧
      mopOf (manage 1 0x11 1 []) = .set ∧ mopOf (manage 2 0 0 []) = .commit ∧ objectOf 0x60 = none ∧
      Obj.staged (.window 1) = true ∧ copyActive (manage 1 0x11 1 []) = false ∧ copyActive (manage 1 0x11 0 []) = true ∧
      setValueGood (.window 1) [1, 6, 0, 1, 0, 1, 0, 0, 2, 0, 2, 1, 1] = true ∧ Obj.acts .partControl = true ∧
      Obj.acts .timing = false ∧ bodyAct (manage 4 2 0 [1]) = some .enterRetain ∧ bodyAct (manage 4 2 0 [9]) = none ∧
      (valueOf (manage 4 2 0 [1])).length = Act.valueLength .enterRetain := by decide +kernel

/-- Every object, at the last index of its range. -/
theorem witness_GetAnswersValue :
    ∀ x ∈ ([(0x00, 0, .ident), (0x01, 0, .partState), (0x02, 0, .partControl), (0x08, 0, .timing), (0x2F, 0, .window 31),
        (0x3F, 0, .requester 15), (0x40, 15, .renewalStatus), (0x41, 0, .lapseClear), (0x48, 0, .linkStatus),
        (0x49, 0, .linkSettings), (0x50, 10, .faultCounters), (0x58, 0, .noticeSettings), (0x59, 0, .commitStatus)] :
        List (Byte × Byte × Obj)),
      let body : List Byte := [0, 7, 0, x.1, x.2.1, 0, 0]
      (asked serving body).Takes .get body [] ∧ formGood body = true ∧ objectOf (objOf body) = some x.2.2 ∧
        idxOf body = x.2.2.lastIndex := by
  intro x h
  refine ⟨takes _ _ _ rfl rfl rfl ?_ (by simp), ?_⟩ <;> revert x <;> decide +kernel

theorem witness_SetWritesStagedCopy :
    let body := manage 1 0x11 1 [1, 6, 0, 1, 0, 1, 0, 0, 2, 0, 2, 1, 1]
    ((asked serving body).Takes .set body [] ∧ (asked serving body).requestTests body = none) ∧
      objectOf (objOf body) = some (.window 1) :=
  ⟨taken _ _ _ _ rfl rfl rfl (by decide +kernel) (by decide +kernel), by decide +kernel⟩

theorem witness_NoticeSettingsAreImmediate :
    (∀ s ∈ [serving, committing], (asked s (manage 1 0x58 1 [15, 0x0F])).Takes .setNotice (manage 1 0x58 1 [15, 0x0F]) [] ∧
      (asked s (manage 1 0x58 1 [15, 0x0F])).actsAsManager 0 = true) ∧
      fieldAt (manage 1 0x58 1 [15, 0x0F]) 0 1 = 0 ∧ idxOf (manage 1 0x58 1 [15, 0x0F]) = 0 ∧
      (manage 1 0x58 1 [15, 0x0F]).length = 9 ∧ fieldAt (manage 1 0x58 1 [15, 0x0F]) 6 1 = 2 ∧
      valueOf (manage 1 0x58 1 [15, 0x0F]) = [byteOf 15, 0x0F] ∧ serving.mgmt.commit.state = .none ∧
      committing.mgmt.commit.state ≠ .none := by
  refine ⟨fun s h => ?_, by decide +kernel⟩
  have h : s = serving ∨ s = committing := by simpa using h
  rcases h with rfl | rfl <;> exact ⟨takes _ _ _ rfl rfl rfl (by decide +kernel) (by decide +kernel), by decide +kernel⟩

/-- `tables` with windows 1 and 2 replaced. -/
def withWindows (v w : Window) : Objects := { tables with windows := (tables.windows.set 1 v).set 2 w }

/-- One staged set for each row: timing out of range, T_DWELL below T_OA, T_QUAD below T_OO, a window that is not aligned,
one that runs past 1024 MiB, two that overlap, no manager, and a good one. -/
theorem witness_ValidationOrder :
    ({ tables with timing := { tables.timing with tOa := 0 } } : Objects).timing.badField = some 0 ∧
      { tables.timing with renewalRate := 3, idleClose := 1024 }.badField = some 12 ∧
      { tables.timing with idleClose := 1024 }.badField = some 14 ∧
      { tables.timing with tExit := 1023, tTurn := 0, renewalInterval := 128, renewalRate := 4 }.badField = none ∧
      tables.timing.badField = none ∧ ¬{ tables.timing with tDwell := 29 }.tOa ≤ { tables.timing with tDwell := 29 }.tDwell ∧
      tables.timing.tOa ≤ tables.timing.tDwell ∧
      ¬{ tables.timing with tQuad := 14 }.tOo ≤ { tables.timing with tQuad := 14 }.tQuad ∧
      tables.timing.tOo ≤ tables.timing.tQuad ∧
      (let v : Window := { window0 with sizeExp := 1, logicalBase := 2049 }
       v.valid = true ∧ ¬2 ^ v.sizeExp ∣ v.logicalBase) ∧
      (let v : Window := { window0 with sizeExp := 0, logicalBase := 2048, physicalBase := 1023 }
       v.physicalBase + 2 ^ v.sizeExp = 1024 ∧ ¬{ v with sizeExp := 1 }.physicalBase + 2 ^ { v with sizeExp := 1 }.sizeExp ≤ 1024) ∧
      (let w := (withWindows { window0 with sizeExp := 0, logicalBase := 1023 } Window.reset).windows.get
       (w 0).valid = true ∧ (w 1).valid = true ∧ (w 0).logicalBase ≤ 1023 ∧
         1023 < (w 0).logicalBase + 2 ^ (w 0).sizeExp ∧ (w 1).logicalBase ≤ 1023 ∧
         1023 < (w 1).logicalBase + 2 ^ (w 1).sizeExp) ∧
      (tables.requesters.get 0).enabled = true ∧ (tables.requesters.get 0).manager = true := by decide +kernel

/-- `serving` with another staged timing profile. -/
def stagedTiming (f : Timing → Timing) : State :=
  withMgmt serving fun m => { m with staged := { m.staged with timing := f m.staged.timing } }

/-- A COMMIT in STARTING, one whose validation fails, an immediate one, a timing one and a map change. -/
theorem witness_CommitOutcomes :
    (∀ s ∈ [withPart serving .starting, serving, stagedTiming fun t => { t with tDwell := 29 },
        stagedTiming fun t => { t with tRd := 24 }, stagedTiming fun t => { t with mapMode := .pageFirst }],
      (asked s (manage 2 0 0 [])).Takes .commit (manage 2 0 0 []) [] ∧
        (asked s (manage 2 0 0 [])).requestTests (manage 2 0 0 []) = none) ∧
      validate (stagedTiming fun t => { t with tDwell := 29 }).mgmt.staged = some (.timingDwell, 0) ∧
      validate serving.mgmt.staged = none ∧ serving.mgmt.staged.timing = serving.mgmt.active.timing ∧
      validate (stagedTiming fun t => { t with tRd := 24 }).mgmt.staged = none ∧
      validate (stagedTiming fun t => { t with mapMode := .pageFirst }).mgmt.staged = none := by
  refine ⟨fun s h => ?_, by decide +kernel⟩
  simp only [List.mem_cons, List.not_mem_nil, or_false] at h
  rcases h with rfl | rfl | rfl | rfl | rfl <;>
    exact taken _ _ _ _ rfl rfl rfl (by decide +kernel) (by decide +kernel)

/-- Banks that leave the exemption set, stay in it, and are never in it, under a staged table with one RETAINED window of
physical 0 MiB to 64 MiB in PAGE-FIRST; and a commit halt in HALTED. -/
theorem witness_CommitPointEffects :
    let s := withPort { serving with ren := { serving.ren with
        records := (Table.fill 16 { debt := 0, exempt := true, lapse := false }).set 15
          { debt := -4, exempt := false, lapse := false } } } fun p => { p with mode := .halted, commitHalt := true }
    let o : Objects :=
      { tables with
        timing := { tables.timing with mapMode := .pageFirst }
        windows := tables.windows.set 0 { window0 with sizeExp := 6 } }
    s.exemptBank 0 = true ∧ exemptIn o 0 = false ∧ s.exemptBank 1 = true ∧ exemptIn o 1 = true ∧
      s.exemptBank 15 = false ∧ exemptIn o 15 = true ∧ s.port.commitHalt = true ∧ s.port.mode = .halted ∧
      s.port.drainHalt = false ∧ s.port.mode ≠ .held ∧ retained.port.mode = .held := by decide +kernel

/-- DRAINING in stage LIST. -/
def draining (s : State) : State :=
  withMgmt s fun m => { m with part := { m.part with state := .draining, stage := some .list } }

/-- DRAINING in the stage and mode given, the drain halt standing, with a timing commit in HALT-WAIT. -/
def drained (stage : DrainStage) (mode : PortMode) : State :=
  withPort
    (withMgmt serving fun m =>
      { m with
        commit := { state := .haltWait, mapChange := false, replyOwed := some (.owed ⟨0, 7, 2, 0, 0⟩) }
        part := { m.part with state := .draining, stage := some stage, retainOwed := some ⟨0, 6, 4, 2, 0⟩ } }) fun p =>
    { p with mode := mode, commitHalt := true, drainHalt := true, holdReq := stage = .hold }

/-- HALTING for a timing commit in HALT-WAIT, with every bank CLOSED and the pending list given. -/
def haltWaiting (l : List Entry) : State :=
  withPort (withMgmt { serving with sched := { serving.sched with list := l } } fun m =>
    { m with commit := { state := .haltWait, mapChange := false, replyOwed := none } }) fun p =>
      { p with mode := .halting, commitHalt := true }

/-- `s` with no commit in progress. -/
def still (s : State) : State := withMgmt s fun m => { m with commit := CommitRecord.reset }

/-- `s` with bank 7 RENEWING. -/
def renewing7 (s : State) : State :=
  withPort s fun p => { p with banks := p.banks.set 7 { Bank.idle .renewing with tRen := some 1000120 } }

theorem witness_HaltAndDrainAdvance :
    (busy.sched.list ≠ [] ∧ busy.port.mode = .run) ∧
    (let s := withPort (withMgmt timers fun m => { m with part := { m.part with state := .draining, stage := some .halt } })
       fun p => { p with mode := .halting, drainHalt := true }
     s.mgmt.commit.state ≠ .listWait ∧ ¬s.mgmt.part.stage = some .list ∧ s.port.mode = .halting ∧
       s.banksIn .closed < 16) ∧
    (draining waking).port.mode = .waking ∧
    (let s := draining (withMgmt timers fun m => { m with commit := committing.mgmt.commit })
     s.sched.list = [] ∧ s.mgmt.commit.state = .listWait ∧ s.mgmt.part.state = .draining ∧
       s.mgmt.part.stage = some .list ∧ s.port.mode = .run ∧ s.banksIn .closed < 16) ∧
    (let s := renewing7 (drained .halt .halting)
     s.sched.list = [] ∧ s.mgmt.commit.state = .haltWait ∧ s.mgmt.part.state = .draining ∧
       s.mgmt.part.stage = some .halt ∧ s.port.drainHalt = true ∧ s.port.mode = .halting ∧ s.banksIn .closed < 16) ∧
    (let s := draining timers
     s.sched.list = [] ∧ s.mgmt.part.state = .draining ∧ s.mgmt.part.stage = some .list ∧ s.mgmt.commit.state = .none ∧
       s.port.mode = .run ∧ s.banksIn .closed < 16) ∧
    (let s := withMgmt timers fun m => { m with commit := { state := .listWait, mapChange := true, replyOwed := none } }
     s.sched.list = [] ∧ s.mgmt.commit.state = .listWait ∧ s.mgmt.part.stage = none ∧ s.port.mode = .run ∧
       s.banksIn .closed < 16) ∧
    (∀ s ∈ [haltWaiting busy.sched.list, haltWaiting []],
      s.port.mode = .halting ∧ (∀ b, (s.bank b).state = .closed) ∧ s.mgmt.commit.state = .haltWait ∧
        s.mgmt.part.stage = none ∧ s.port.holdReq = false ∧ s.port.drainHalt = false) ∧
    (let s := still (drained .halt .halting)
     s.mgmt.part.stage = some .halt ∧ s.mgmt.commit.state = .none ∧ s.port.mode = .halting ∧
       ∀ b, (s.bank b).state = .closed) ∧
    (let s := still (drained .halt .halted)
     s.mgmt.part.stage = some .halt ∧ s.port.mode = .halted ∧ s.banksIn .renewing = 0 ∧
       0 < (renewing7 s).banksIn .renewing) ∧
    (let s := still (drained .hold .halted)
     s.mgmt.part.stage = some .hold ∧ s.mgmt.commit.state = .none ∧ s.port.mode = .halted ∧ s.port.holdReq = true ∧
       s.banksIn .renewing = 0 ∧ 0 < (renewing7 s).banksIn .renewing) ∧
    (let s := draining serving
     s.sched.list = [] ∧ s.mgmt.part.state = .draining ∧ s.mgmt.part.stage = some .list ∧ s.mgmt.commit.state = .none ∧
       s.port.mode = .run ∧ ∀ b, (s.bank b).state = .closed) ∧
    (let s := committing
     s.sched.list = [] ∧ s.mgmt.commit.state = .listWait ∧ s.mgmt.part.stage = none ∧ s.port.holdReq = false ∧
       s.port.drainHalt = false ∧ s.port.mode = .run ∧ ∀ b, (s.bank b).state = .closed) ∧
    (let s := draining committing
     s.sched.list = [] ∧ s.mgmt.commit.state = .listWait ∧ s.mgmt.part.state = .draining ∧
       s.mgmt.part.stage = some .list ∧ s.port.mode = .run ∧ ∀ b, (s.bank b).state = .closed) ∧
    (let s := drained .halt .halting
     s.sched.list = [] ∧ s.mgmt.commit.state = .haltWait ∧ s.mgmt.part.state = .draining ∧
       s.mgmt.part.stage = some .halt ∧ s.port.drainHalt = true ∧ s.port.mode = .halting ∧
       ∀ b, (s.bank b).state = .closed) ∧
    (let s := drained .hold .halted
     s.sched.list = [] ∧ s.mgmt.commit.state = .haltWait ∧ s.mgmt.part.stage = some .hold ∧ s.port.mode = .halted ∧
       s.port.holdReq = true ∧ s.port.drainHalt = true ∧ s.banksIn .renewing = 0 ∧
       0 < (renewing7 s).banksIn .renewing) := by
  refine ⟨?_, ?_, ?_, ?_, ?_, ?_, ?_, ?_, ?_, ?_, ?_, ?_⟩ <;> decide +kernel

theorem witness_DiscardRestoresStaged :
    (∀ s ∈ [serving, timingStaged, committing], (asked s (manage 3 0 0 [])).Takes .discard (manage 3 0 0 []) [] ∧
      (asked s (manage 3 0 0 [])).actsAsManager 0 = true) ∧ formGood (manage 3 0 0 []) = true ∧
      serving.mgmt.staged = serving.mgmt.active ∧ serving.mgmt.status.stagedDiffers = false ∧
      timingStaged.mgmt.commit.state = .none ∧ committing.mgmt.commit.state ≠ .none := by
  refine ⟨fun s h => ?_, by decide +kernel⟩
  simp only [List.mem_cons, List.not_mem_nil, or_false] at h
  rcases h with rfl | rfl | rfl <;>
    exact ⟨takes _ _ _ rfl rfl rfl (by decide +kernel) (by decide +kernel), by decide +kernel⟩

theorem witness_ClearsTakeEffect :
    ((asked serving (manage 4 0x41 0 [1, 0x80, 0x01])).Takes .lapseClear (manage 4 0x41 0 [1, 0x80, 0x01]) [] ∧
      (asked serving (manage 4 0x41 0 [1, 0x80, 0x01])).requestTests (manage 4 0x41 0 [1, 0x80, 0x01]) = none) ∧
    valueOf (manage 4 0x41 0 [1, 0x80, 0x01]) = [1, 0x80, 0x01] ∧
    ((asked committing (manage 4 0x50 0 [1])).Takes .clear (manage 4 0x50 0 [1]) [] ∧
      (asked committing (manage 4 0x50 0 [1])).requestTests (manage 4 0x50 0 [1]) = none) :=
  ⟨taken _ _ _ _ rfl rfl rfl (by decide +kernel) (by decide +kernel), by decide +kernel,
    taken _ _ _ _ rfl rfl rfl (by decide +kernel) (by decide +kernel)⟩

theorem witness_RetainOutcomes :
    ∀ s ∈ [serving, draining serving, retained, withPart serving .starting, waking],
      ((asked s (manage 4 2 0 [1])).Takes .enterRetain (manage 4 2 0 [1]) [] ∧
        (asked s (manage 4 2 0 [1])).requestTests (manage 4 2 0 [1]) = none) ∧
      ((asked s (manage 4 2 0 [2])).Takes .leaveRetain (manage 4 2 0 [2]) [] ∧
        (asked s (manage 4 2 0 [2])).requestTests (manage 4 2 0 [2]) = none) ∧
      (s.mgmt.part.state = .retained → s.port.mode = .held) := by
  intro s h
  simp only [List.mem_cons, List.not_mem_nil, or_false] at h
  rcases h with rfl | rfl | rfl | rfl | rfl <;>
    exact ⟨taken _ _ _ _ rfl rfl rfl (by decide +kernel) (by decide +kernel),
      taken _ _ _ _ rfl rfl rfl (by decide +kernel) (by decide +kernel), by decide +kernel⟩

/-- CORRECTED-DATA is off after reset, RENEWAL-OVERRUN is on (R186); 15 and 16 records. -/
theorem witness_ReportsCountedAndQueued :
    serving.mgmt.notice.enables.getLsbD (Report.counter (.correctedData 0 0 0)).val = false ∧
      serving.mgmt.notice.enables.getLsbD (Report.counter (.renewalOverrun 5)).val = true ∧
      (withMgmt serving fun m => { m with notices := List.replicate 15 aNotice }).mgmt.notices.length < 16 ∧
      16 ≤ (withMgmt serving fun m => { m with notices := List.replicate 16 aNotice }).mgmt.notices.length := by
  decide +kernel

/-- `s` with a command waiting. -/
def waiting (s : State) (c : Instr) : State := { s with pending := [c] }

theorem witness_StepKeepsLink :
    (waiting ring40 .ackTimerExpiry).LinkOk ∧ ∃ t, step (waiting ring40 .ackTimerExpiry) = .next t :=
  ⟨by decide +kernel, _, rfl⟩

theorem witness_StepKeepsPort :
    (waiting busy (.accessCompletion 3 [])).PortOk ∧ ∃ t, step (waiting busy (.accessCompletion 3 [])) = .next t :=
  ⟨by decide +kernel, _, rfl⟩

theorem witness_StepKeepsDebts :
    (waiting (withDebt busy 5 8) .tick).PortOk ∧ (waiting (withDebt busy 5 8) .tick).DebtsOk ∧
      ∃ t, step (waiting (withDebt busy 5 8) .tick) = .next t :=
  ⟨by decide +kernel, by decide +kernel, _, rfl⟩

theorem witness_StepKeepsPendingList :
    (waiting busy .tOoPassed).sched.Ok ∧ ∃ t, step (waiting busy .tOoPassed) = .next t := ⟨by decide +kernel, _, rfl⟩

theorem witness_StepKeepsResponses :
    (waiting busy (.accessCompletion 3 [])).ResponseOk ∧ ∃ t, step (waiting busy (.accessCompletion 3 [])) = .next t :=
  ⟨by decide +kernel, _, rfl⟩

theorem witness_StepKeepsArray :
    (waiting merging (.accessCompletion 3 [])).ArrayOk ∧
      ∃ t, step (waiting merging (.accessCompletion 3 [])) = .next t :=
  ⟨by decide +kernel, _, rfl⟩

theorem witness_StepKeepsManagement :
    (waiting (asked timingStaged (manage 3 0 0 [])) .discard).mgmt.Ok ∧
      ∃ t, step (waiting (asked timingStaged (manage 3 0 0 [])) .discard) = .next t :=
  ⟨by decide +kernel, _, rfl⟩

/-- A COMMIT that takes its commit point, and a reset. -/
theorem witness_ActiveCopiesChangeAtCommitPoints :
    (∃ t, exec .commit (asked timingStaged (manage 2 0 0 [])) = .next t ∧
      t.mgmt.active = timingStaged.mgmt.staged ∧ timingStaged.mgmt.staged ≠ timingStaged.mgmt.active) ∧
    ∃ t, exec .resetNAssert serving = .next t ∧ t.mgmt.active = Objects.reset ∧ serving.mgmt.active ≠ Objects.reset :=
  ⟨⟨_, rfl, by decide +kernel⟩, _, rfl, by decide +kernel⟩

/-- TICK, with chunks stored. -/
theorem witness_OnlyCompletionsStoreChunks :
    (∀ b ups, Instr.tick ≠ .accessCompletion b ups) ∧ (∃ t, exec .tick busy = .next t) ∧
      (after .tick busy).array.find (chunkKey 3 700 40) = some (Chunk.fresh (List.replicate 32 0x10) false) :=
  ⟨by simp, ⟨_, rfl⟩, by decide +kernel⟩

end Sys2Proof.Tests
end

section
/-! PROOFS. The scheduler's wants (section 4.3): eligible and ready entries, the chosen entry, and the rows of R74. -/

namespace Sys2Proof.Machine

/-! ### urgent banks, eligible and ready entries -/

theorem State.urgent_iff (s : State) (b : BankNo) :
    s.urgent b = true ↔ (s.ren.records.get b).exempt = false ∧
      (s.timing.urgentLevel : Int) ≤ (s.ren.records.get b).debt := by
  simp [State.urgent]

theorem Entry.eligible_iff (e : Entry) : e.eligible = true ↔ e.state = .waiting ∧ e.blockedBy = none := by
  simp [Entry.eligible]

theorem ReqKind.ne_read_iff (k : ReqKind) : k ≠ .read ↔ k = .write ∨ k = .masked := by
  cases k <;> simp

theorem State.ready_iff (s : State) (e : Entry) :
    s.ready e = true ↔ e.state = .waiting ∧ e.blockedBy = none ∧
      (e.kind = .write ∨ e.kind = .masked ∨ s.mayReserve e = true) := by
  simp [State.ready, Entry.eligible_iff, ReqKind.ne_read_iff, and_assoc, or_assoc]

theorem State.targeted_eq_false_iff (s : State) (b : BankNo) :
    s.targeted b = false ↔ ∀ e ∈ s.sched.list, e.bank ≠ b := by
  simp [State.targeted]

/-! ### the chosen entry -/

theorem Priority.ne_expedited_iff (q : Priority) : q ≠ .expedited ↔ q = .normal := by
  cases q <;> simp

/-- R73: the first entry of the first class that has one. -/
theorem chosen_eq_some {l : List Entry} {e : Entry} (h : chosen l = some e) :
    ∃ older younger, l = older ++ e :: younger ∧
      (e.overdue = true ∧ (∀ x ∈ older, x.overdue = false) ∨
        (∀ x ∈ l, x.overdue = false) ∧ e.priority = .expedited ∧ (∀ x ∈ older, x.priority = .normal) ∨
        (∀ x ∈ l, x.overdue = false ∧ x.priority = .normal) ∧ older = []) := by
  unfold chosen at h
  split at h
  next o ho =>
    cases h
    obtain ⟨overdue, older, younger, hl, first⟩ := List.find?_eq_some_iff_append.1 ho
    exact ⟨older, younger, hl, .inl ⟨overdue, by simpa using first⟩⟩
  next no =>
    have noOverdue : ∀ x ∈ l, x.overdue = false := by simpa using no
    split at h
    next o ho =>
      cases h
      obtain ⟨expedited, older, younger, hl, first⟩ := List.find?_eq_some_iff_append.1 ho
      exact ⟨older, younger, hl, .inr (.inl ⟨noOverdue, by simpa using expedited,
        by simpa [Priority.ne_expedited_iff] using first⟩)⟩
    next noExpedited =>
      have allNormal : ∀ x ∈ l, x.priority = .normal := by simpa [Priority.ne_expedited_iff] using noExpedited
      obtain ⟨younger, rfl⟩ := List.head?_eq_some_iff.1 h
      exact ⟨[], younger, rfl, .inr (.inr ⟨fun x hx => ⟨noOverdue x hx, allNormal x hx⟩, rfl⟩)⟩

@[simp] theorem chosen_nil : chosen [] = none := rfl

theorem chosen_eq_none_iff {l : List Entry} : chosen l = none ↔ l = [] := by
  refine ⟨fun h => ?_, fun h => h ▸ chosen_nil⟩
  unfold chosen at h
  split at h
  · cases h
  · split at h
    · cases h
    · exact List.head?_eq_none_iff.1 h

theorem exists_chosen {l : List Entry} (h : l ≠ []) : ∃ e, chosen l = some e :=
  Option.ne_none_iff_exists'.1 (mt chosen_eq_none_iff.1 h)

/-! ### the rows of R74 -/

/-- The hits and the misses of a list, for open page `p` (R73). -/
def hits (p : Nat) (rs : List Entry) : List Entry := rs.filter fun e => e.page = p
def misses (p : Nat) (rs : List Entry) : List Entry := rs.filter fun e => e.page ≠ p

/-- The condition of row 1. -/
def OverdueMiss (p : Nat) (rs : List Entry) : Prop :=
  (∃ e ∈ misses p rs, e.overdue = true) ∧ ∀ e ∈ hits p rs, e.overdue = false

/-- What row 4 asks beyond the absence of ready entries. -/
def State.WantsCloseAfter (s : State) (b : BankNo) (p : Nat) : Prop :=
  s.sched.closeAfter.get b = true ∧ ∀ e ∈ s.sched.list, ¬(e.bank = b ∧ e.page = p)

/-- The condition of row 5. -/
def State.WantsIdleClose (s : State) (b : BankNo) : Prop :=
  (∀ e ∈ s.sched.list, e.bank ≠ b) ∧ s.sched.idle.get b = .expired

section
variable {s : State} {b : BankNo} {p : Nat} {rs : List Entry}

theorem overdueMiss_iff :
    OverdueMiss p rs ↔ ((misses p rs).any Entry.overdue && !(hits p rs).any Entry.overdue) = true := by
  simp [OverdueMiss]

theorem not_overdueMiss_nil : ¬OverdueMiss p [] := by
  simp [OverdueMiss, misses]

theorem State.wantOpenPage_of_overdueMiss (h : OverdueMiss p rs) :
    s.wantOpenPage b p rs = (chosen (misses p rs)).map .conflictClose :=
  if_pos (overdueMiss_iff.1 h)

/-- Below row 1 the ready hits come first, then the ready misses, then what the bank wants with no ready entry. -/
theorem State.wantOpenPage_of_not_overdueMiss (h : ¬OverdueMiss p rs) :
    s.wantOpenPage b p rs = ((chosen (hits p rs)).map .access).or
      (((chosen (misses p rs)).map .conflictClose).or (s.wantOpenPage b p [])) := by
  refine (if_neg (mt overdueMiss_iff.2 h)).trans ?_
  unfold hits misses
  split
  next hit => rw [hit]; rfl
  next noHit miss => rw [noHit, miss]; rfl
  next noHit noMiss => rw [noHit, noMiss]; rfl

theorem State.wantOpenPage_of_hit (h : ¬OverdueMiss p rs) (hit : hits p rs ≠ []) :
    s.wantOpenPage b p rs = (chosen (hits p rs)).map .access := by
  obtain ⟨e, he⟩ := exists_chosen hit
  simp [State.wantOpenPage_of_not_overdueMiss h, he]

theorem State.wantOpenPage_of_miss (h : ¬OverdueMiss p rs) (noHit : hits p rs = []) (miss : misses p rs ≠ []) :
    s.wantOpenPage b p rs = (chosen (misses p rs)).map .conflictClose := by
  obtain ⟨e, he⟩ := exists_chosen miss
  simp [State.wantOpenPage_of_not_overdueMiss h, noHit, he]

theorem State.wantsCloseAfter_iff : s.WantsCloseAfter b p ↔
    (s.sched.closeAfter.get b && !s.sched.list.any (fun e => e.bank = b && e.page = p)) = true := by
  simp [State.WantsCloseAfter]

theorem State.wantsIdleClose_iff : s.WantsIdleClose b ↔ (!s.targeted b && s.sched.idle.get b = .expired) = true := by
  simp [State.WantsIdleClose, State.targeted_eq_false_iff]

open Classical in
/-- Rows 4 to 6. -/
theorem State.wantOpenPage_nil : s.wantOpenPage b p [] =
    if s.WantsCloseAfter b p then some .closeAfter else if s.WantsIdleClose b then some .idleClose else none := by
  simp only [State.wantsCloseAfter_iff, State.wantsIdleClose_iff]
  rfl

/-! ### the want for a bank -/

/-- The ready entries that target the bank. -/
def State.readyFor (s : State) (b : BankNo) : List Entry := s.sched.list.filter fun e => e.bank = b && s.ready e

theorem State.schedWant_of_urgent (h : s.urgent b = true) : s.schedWant b = none :=
  if_pos h

/-- R75. -/
theorem State.schedWant_of_noPage (h : s.urgent b = false) (page : (s.bank b).openPage = none) :
    s.schedWant b = (chosen (s.readyFor b)).map .openFor := by
  simp [State.schedWant, State.readyFor, h, page]

theorem State.schedWant_of_openPage (h : s.urgent b = false) (page : (s.bank b).openPage = some p) :
    s.schedWant b = s.wantOpenPage b p (s.readyFor b) := by
  simp [State.schedWant, State.readyFor, h, page]

/-- R74, row by row. -/
theorem State.wantOpenPage_rows (s : State) (b : BankNo) (p : Nat) (rs : List Entry) :
    (OverdueMiss p rs → s.wantOpenPage b p rs = (chosen (misses p rs)).map .conflictClose) ∧
    (¬OverdueMiss p rs → hits p rs ≠ [] → s.wantOpenPage b p rs = (chosen (hits p rs)).map .access) ∧
    (¬OverdueMiss p rs → hits p rs = [] → misses p rs ≠ [] →
      s.wantOpenPage b p rs = (chosen (misses p rs)).map .conflictClose) ∧
    (rs = [] → s.WantsCloseAfter b p → s.wantOpenPage b p rs = some .closeAfter) ∧
    (rs = [] → ¬s.WantsCloseAfter b p → s.WantsIdleClose b → s.wantOpenPage b p rs = some .idleClose) ∧
    (rs = [] → ¬s.WantsCloseAfter b p → ¬s.WantsIdleClose b → s.wantOpenPage b p rs = none) := by
  refine ⟨State.wantOpenPage_of_overdueMiss, State.wantOpenPage_of_hit, State.wantOpenPage_of_miss, ?_, ?_, ?_⟩
  · rintro rfl mark
    rw [State.wantOpenPage_nil, if_pos mark]
  · rintro rfl noMark idle
    rw [State.wantOpenPage_nil, if_neg noMark, if_pos idle]
  · rintro rfl noMark busy
    rw [State.wantOpenPage_nil, if_neg noMark, if_neg busy]

end

/-- Settles O15: the definitions that R74 reads, then its rows for a bank with an open page and R75 for one without. -/
theorem schedulerWants : Obligations.SchedulerWants := by
  refine ⟨fun s e => ⟨e.eligible_iff, s.ready_iff e⟩, State.urgent_iff, fun _ _ => chosen_eq_some,
    fun _ => chosen_eq_none_iff, fun s b => ⟨State.schedWant_of_urgent, State.schedWant_of_noPage, ?_⟩⟩
  intro p calm page
  rw [State.schedWant_of_openPage calm page]
  exact s.wantOpenPage_rows b p (s.readyFor b)

end Sys2Proof.Machine
end

section
/-! PROOFS. The renewal unit's wants (sections 5.3 and 5.5): the banks without a want, and the rows of R100 class by
class. -/

namespace Sys2Proof.Machine

/-! ### the modes of R105 and the banks without a want -/

theorem PortMode.renews_iff (m : PortMode) : m.renews = true ↔ m = .run ∨ m = .halting ∨ m = .halted := by
  cases m <;> simp [PortMode.renews]

theorem PortMode.renews_eq_false_iff (m : PortMode) : m.renews = false ↔ m = .init ∨ m = .held ∨ m = .waking := by
  cases m <;> simp [PortMode.renews]

/-- R100, R105: no want is presented for the bank, whatever its debt. -/
def State.RenewalSilent (s : State) (b : BankNo) : Prop :=
  (s.ren.records.get b).exempt = true ∨ s.port.mode.renews = false ∨ (s.bank b).state = .renewing ∨
    (s.bank b).state = .held

/-- R101, for a bank whose debt is at most 0 and which is not exempt. -/
def State.WantsPullIn (s : State) (b : BankNo) : Prop :=
  -3 ≤ (s.ren.records.get b).debt ∧ (s.bank b).state = .closed ∧ ∀ e ∈ s.sched.list, e.bank ≠ b

section
variable {s : State} {b : BankNo}

theorem State.renewalSilent_iff : s.RenewalSilent b ↔
    ((s.ren.records.get b).exempt || !s.port.mode.renews || (s.bank b).state = .renewing || (s.bank b).state = .held)
      = true := by
  simp [State.RenewalSilent, or_assoc]

theorem State.wantsPullIn_iff : s.WantsPullIn b ↔
    (-3 ≤ (s.ren.records.get b).debt && (s.bank b).state = .closed && !s.targeted b) = true := by
  simp [State.WantsPullIn, State.targeted_eq_false_iff, and_assoc]

theorem State.not_wantsPullIn_iff : ¬s.WantsPullIn b ↔
    (s.ren.records.get b).debt < -3 ∨ (s.bank b).state ≠ .closed ∨ ∃ e ∈ s.sched.list, e.bank = b := by
  simp only [State.WantsPullIn, not_and_or, not_le, not_forall, not_not, exists_prop, ne_eq]

theorem State.urgent_eq_false_of_lt (h : (s.ren.records.get b).debt < s.timing.urgentLevel) : s.urgent b = false :=
  Bool.eq_false_iff.2 fun urgent => absurd ((s.urgent_iff b).1 urgent).2 (not_le.2 h)

/-! ### the want for a bank -/

theorem State.renWant_of_silent (h : s.RenewalSilent b) : s.renWant b = none :=
  if_pos (State.renewalSilent_iff.1 h)

open Classical in
/-- The classes of R99 in the order of the rows of R100. -/
theorem State.renWant_of_not_silent (h : ¬s.RenewalSilent b) : s.renWant b =
    if s.urgent b then
      (if (s.bank b).state = .closing ∨ (s.bank b).state = .closed then some .renew else some .close)
    else if 1 ≤ (s.ren.records.get b).debt ∨ s.WantsPullIn b then some .renew
    else none := by
  refine (if_neg (mt State.renewalSilent_iff.2 h)).trans ?_
  simp only [State.wantsPullIn_iff, Bool.or_eq_true, decide_eq_true_eq, ite_or]

/-! ### a bank that is not exempt, in RUN, HALTING or HALTED -/

theorem State.renWant_of_urgent_busy (mode : s.port.mode.renews = true) (urgent : s.urgent b = true)
    (busy : (s.bank b).state = .opening ∨ (s.bank b).state = .opened ∨ (s.bank b).state = .accessing) :
    s.renWant b = some .close := by
  have kept := ((s.urgent_iff b).1 urgent).1
  have heard : ¬s.RenewalSilent b := by
    rcases busy with st | st | st <;> simp [State.RenewalSilent, kept, mode, st]
  have notClosed : ¬((s.bank b).state = .closing ∨ (s.bank b).state = .closed) := by
    rcases busy with st | st | st <;> simp [st]
  rw [State.renWant_of_not_silent heard, if_pos urgent, if_neg notClosed]

theorem State.renWant_of_urgent_closed (mode : s.port.mode.renews = true) (urgent : s.urgent b = true)
    (closed : (s.bank b).state = .closing ∨ (s.bank b).state = .closed) : s.renWant b = some .renew := by
  have kept := ((s.urgent_iff b).1 urgent).1
  have heard : ¬s.RenewalSilent b := by
    rcases closed with st | st <;> simp [State.RenewalSilent, kept, mode, st]
  rw [State.renWant_of_not_silent heard, if_pos urgent, if_pos closed]

theorem State.renWant_of_due (kept : (s.ren.records.get b).exempt = false) (mode : s.port.mode.renews = true)
    (calm : s.urgent b = false) (due : 1 ≤ (s.ren.records.get b).debt) (notRenewing : (s.bank b).state ≠ .renewing)
    (notHeld : (s.bank b).state ≠ .held) : s.renWant b = some .renew := by
  have heard : ¬s.RenewalSilent b := by simp [State.RenewalSilent, kept, mode, notRenewing, notHeld]
  simp [State.renWant_of_not_silent heard, calm, due]

theorem State.renWant_of_pullIn (kept : (s.ren.records.get b).exempt = false) (mode : s.port.mode.renews = true)
    (calm : s.urgent b = false) (pullIn : s.WantsPullIn b) : s.renWant b = some .renew := by
  have ⟨_, closed, _⟩ := pullIn
  have heard : ¬s.RenewalSilent b := by simp [State.RenewalSilent, kept, mode, closed]
  simp [State.renWant_of_not_silent heard, calm, pullIn]

/-- A level bank without a pull-in, or a full one; an exempt one or one at rest has no want either. -/
theorem State.renWant_of_not_pullIn (calm : s.urgent b = false) (low : (s.ren.records.get b).debt ≤ 0)
    (noPullIn : ¬s.WantsPullIn b) : s.renWant b = none := by
  by_cases silent : s.RenewalSilent b
  · exact State.renWant_of_silent silent
  · have notDue : ¬1 ≤ (s.ren.records.get b).debt := by omega
    simp [State.renWant_of_not_silent silent, calm, notDue, noPullIn]

end

/-- Settles O16: the banks without a want, then the rows of R100 for an urgent, a due, a level and a full bank. -/
theorem renewalWants : Obligations.RenewalWants := by
  intro s b r st level
  refine ⟨fun mode => ?_, fun noWant => ?_, fun mode kept levelPos => ?_⟩
  · exact State.renWant_of_silent (.inr (.inl ((PortMode.renews_eq_false_iff _).2 mode)))
  · exact State.renWant_of_silent (noWant.imp_right .inr)
  have renews := (PortMode.renews_iff _).2 mode
  have urgent (high : level ≤ r.debt) : s.urgent b = true := (s.urgent_iff b).2 ⟨kept, high⟩
  have calm (low : r.debt ≤ 0) : s.urgent b = false :=
    State.urgent_eq_false_of_lt (low.trans_lt (zero_lt_one.trans_le levelPos))
  refine ⟨fun high => State.renWant_of_urgent_busy renews (urgent high),
    fun high => State.renWant_of_urgent_closed renews (urgent high), ?due, ?pullIn, ?noPullIn, ?full⟩
  case due =>
    intro due below
    exact State.renWant_of_due kept renews (State.urgent_eq_false_of_lt below) due
  case pullIn =>
    intro floor low closed untargeted
    exact State.renWant_of_pullIn kept renews (calm low) ⟨floor, closed, untargeted⟩
  case noPullIn =>
    intro _ low busy
    exact State.renWant_of_not_pullIn (calm low) low (State.not_wantsPullIn_iff.2 (.inr busy))
  case full =>
    intro full
    have low : r.debt ≤ 0 := full.le.trans (by decide)
    exact State.renWant_of_not_pullIn (calm low) low (State.not_wantsPullIn_iff.2 (.inl full))

end Sys2Proof.Machine
end

section
/-! PROOFS. DISCARD (R161) and SET_NOTICE_SETTINGS (R159): the row of a request by its operation, what the tests of R154
answer it, what the command does to the management unit, and that no COMMIT or DISCARD touches NOTICE-SETTINGS. -/

namespace Sys2Proof.Machine

/-! ### the row of a request (log 25) -/

section
variable {body : List Byte}

theorem rowOf_of_action (op : mopOf body = .action) : rowOf body ≠ .discard ∧ rowOf body ≠ .setNotice := by
  unfold rowOf
  rw [op]
  dsimp only
  split <;> simp

theorem mopOf_of_rowOf_discard (row : rowOf body = .discard) : mopOf body = .discard := by
  cases op : mopOf body
  case discard => rfl
  case action => exact absurd row (rowOf_of_action op).1
  case set =>
    simp only [rowOf, op] at row
    split at row <;> cases row
  all_goals simp [rowOf, op] at row

theorem mopOf_of_rowOf_setNotice (row : rowOf body = .setNotice) :
    mopOf body = .set ∧ objectOf (objOf body) = some .noticeSettings := by
  cases op : mopOf body
  case set =>
    simp only [rowOf, op] at row
    split at row
    next obj => exact ⟨rfl, obj⟩
    next => cases row
  case action => exact absurd row (rowOf_of_action op).2
  all_goals simp [rowOf, op] at row

end

/-! ### NOTICE-SETTINGS on the wire (R186, R194) -/

/-- The value that a NOTICE-SETTINGS is written as spells it again. -/
theorem parseNoticeSettings_bytes (n : NoticeSettings) : parseNoticeSettings n.bytes = some n := by
  have dest : fieldAt n.bytes 0 1 = n.destination.val := by
    have small : n.destination.val < 256 := by omega
    simp [fieldAt, natOfBytes, NoticeSettings.bytes, byteOf, Nat.mod_eq_of_lt small]
  have enables : byteOf (fieldAt n.bytes 1 1) = n.enables := by
    simp [fieldAt, natOfBytes, NoticeSettings.bytes, byteOf]
  have length : n.bytes.length = 2 := rfl
  simp [parseNoticeSettings, dest, enables, length]

/-- A SET to NOTICE-SETTINGS passes the last two tests, whatever its copy field: the object has one copy (R159). -/
theorem objectTests_setNotice {body : List Byte} {n : NoticeSettings} (index : idxOf body = 0)
    (value : valueOf body = n.bytes) : objectTests .set .noticeSettings body = none := by
  simp [objectTests, Obj.staged, index, value, setValueGood, parseNoticeSettings_bytes]

/-! ### the tests of R154 -/

section
variable {s : State} {body : List Byte}

/-- A manager's request that changes staged copies or NOTICE-SETTINGS is BUSY while a commit is in progress. -/
theorem State.requestTests_busy (form : formGood body = true) (manager : s.actsAsManager (fieldAt body 0 1) = true)
    (op : mopOf body = .set ∨ mopOf body = .discard) (busy : s.mgmt.commit.state ≠ .none) :
    s.requestTests body = some .busy := by
  rcases op with op | op <;> simp [State.requestTests, form, manager, op, busy]

theorem State.requestTests_discard (form : formGood body = true) (manager : s.actsAsManager (fieldAt body 0 1) = true)
    (op : mopOf body = .discard) (idle : s.mgmt.commit.state = .none) : s.requestTests body = none := by
  simp [State.requestTests, form, manager, op, idle]

theorem State.requestTests_setNotice {n : NoticeSettings} (form : formGood body = true)
    (manager : s.actsAsManager (fieldAt body 0 1) = true) (op : mopOf body = .set)
    (obj : objectOf (objOf body) = some .noticeSettings) (index : idxOf body = 0) (value : valueOf body = n.bytes)
    (idle : s.mgmt.commit.state = .none) : s.requestTests body = none := by
  simp [State.requestTests, form, manager, op, idle, obj, objectTests_setNotice index value]

end

/-! ### the requests taken -/

section
variable {s : State} {row : Row} {body : List Byte} {rest : List (List Byte)}

/-- A request that fails a test is answered with the test's status, and the queue alone changes beside the answer. -/
theorem State.Takes.event_fails {st : MStatus} (h : s.Takes row body rest) (fails : s.requestTests body = some st)
    (run : State → List Byte → Echo → State) :
    (s.event fun s => s.takeRow row run) =
      .next { s with mgmt :=
        { s.mgmt with queue := rest, replies := [.manageReply (echoFields body) st .none 0 []] } } := by
  rw [State.event_running h.running, h.fails fails, State.taken_reply _ _ _ _ _ h.replies]

theorem State.Takes.event_passes (h : s.Takes row body rest) (passes : s.requestTests body = none)
    (run : State → List Byte → Echo → State) :
    (s.event fun s => s.takeRow row run) = .next (run (s.taken rest) body (echoFields body)) := by
  rw [State.event_running h.running, h.passes passes]

/-- R161: what a DISCARD that passes the tests does. -/
theorem State.Takes.exec_discard (h : s.Takes .discard body rest) (passes : s.requestTests body = none) :
    exec .discard s =
      .next { s with mgmt :=
        { s.mgmt with
          queue := rest
          staged := s.mgmt.active
          status := { s.mgmt.status with stagedDiffers := false }
          replies := [.manageReply (echoFields body) .ok .none 0 []] } } := by
  refine (h.event_passes passes State.doDiscard).trans ?_
  simp [State.doDiscard, State.reply, State.taken, h.replies]

/-- R159: what a SET to NOTICE-SETTINGS that passes the tests does. -/
theorem State.Takes.exec_setNoticeSettings {n : NoticeSettings} (h : s.Takes .setNotice body rest)
    (passes : s.requestTests body = none) (value : valueOf body = n.bytes) :
    exec .setNoticeSettings s =
      .next { s with mgmt :=
        { s.mgmt with
          queue := rest
          notice := n
          replies := [.manageReply (echoFields body) .ok .none 0 []] } } := by
  refine (h.event_passes passes State.doSetNotice).trans ?_
  simp [State.doSetNotice, State.reply, State.taken, h.replies, value, parseNoticeSettings_bytes]

end

/-! ### what keeps NOTICE-SETTINGS -/

/-- An event leaves the state as it was, or has its effect. -/
theorem State.event_eq_next {s t : State} {f : State → State} (h : s.event f = .next t) : t = s ∨ t = f s := by
  cases reset : s.rst with
  | none =>
    rw [State.event_running reset] at h
    cases h
    exact .inr rfl
  | some kind =>
    rw [State.event_inReset (by simp [reset])] at h
    cases h
    exact .inl rfl

@[simp] theorem State.echoed_mgmt (s : State) (body : List Byte) (n : Nat) : (s.echoed body n).mgmt = s.mgmt := by
  unfold State.echoed
  split <;> rfl

/-- Taking a request keeps NOTICE-SETTINGS where executing it does. -/
theorem State.takeRow_keeps_notice {run : State → List Byte → Echo → State}
    (keeps : ∀ t body e, (run t body e).mgmt.notice = t.mgmt.notice) (s : State) (row : Row) :
    (s.takeRow row run).mgmt.notice = s.mgmt.notice := by
  unfold State.takeRow
  split
  case h_2 => rfl
  case h_1 body rest _ =>
    split
    case isFalse => rfl
    case isTrue =>
      dsimp only
      split
      case h_1 => simp
      case h_2 => simp [keeps]

theorem State.doDiscard_keeps_notice (s : State) (body : List Byte) (e : Echo) :
    (s.doDiscard body e).mgmt.notice = s.mgmt.notice := rfl

/-- A commit point takes the staged objects alone, and a wait for one changes the commit record and the halt request. -/
theorem State.acceptCommit_keeps_notice (s : State) (e : Echo) : (s.acceptCommit e).mgmt.notice = s.mgmt.notice := by
  unfold State.acceptCommit
  dsimp only
  split
  · exact State.commitPoint_mgmt_notice _
  · split <;> rfl

theorem State.doCommit_keeps_notice (s : State) (body : List Byte) (e : Echo) :
    (s.doCommit body e).mgmt.notice = s.mgmt.notice := by
  unfold State.doCommit
  split
  · rfl
  · split
    · rfl
    · rw [State.settle_mgmt_notice, State.acceptCommit_keeps_notice]

theorem State.event_takeRow_keeps_notice {s t : State} {row : Row} {run : State → List Byte → Echo → State}
    (keeps : ∀ t body e, (run t body e).mgmt.notice = t.mgmt.notice)
    (h : (s.event fun s => s.takeRow row run) = .next t) : t.mgmt.notice = s.mgmt.notice := by
  rcases State.event_eq_next h with rfl | rfl
  · rfl
  · exact State.takeRow_keeps_notice keeps s row

/-! ### the obligations -/

/-- Settles O42: the tests of R154 for a SET to NOTICE-SETTINGS, with and without a commit in progress; then the frame of
the two commands that move staged and active copies. -/
theorem noticeSettingsAreImmediate : Obligations.NoticeSettingsAreImmediate := by
  refine ⟨fun s body rest d enables h manager index length requester valueLength value => ?_, fun s t h => ?_⟩
  · obtain ⟨op, obj⟩ := mopOf_of_rowOf_setNotice h.row_eq
    have form : formGood body = true := by simp [formGood, length, requester, op, valueLength]
    have value : valueOf body = NoticeSettings.bytes { destination := d, enables := enables } := value
    exact ⟨fun idle =>
        h.exec_setNoticeSettings (State.requestTests_setNotice form manager op obj index value idle) value,
      fun busy => h.event_fails (State.requestTests_busy form manager (.inl op) busy) State.doSetNotice⟩
  · rcases h with commit | discard
    · exact State.event_takeRow_keeps_notice State.doCommit_keeps_notice commit
    · exact State.event_takeRow_keeps_notice State.doDiscard_keeps_notice discard

/-- Settles O47: a DISCARD that passes the tests, the same where the copies agree already, and one during a commit. -/
theorem discardRestoresStaged : Obligations.DiscardRestoresStaged := by
  intro s body rest h form manager reply
  have op := mopOf_of_rowOf_discard h.row_eq
  have discards (idle : s.mgmt.commit.state = .none) :=
    h.exec_discard (State.requestTests_discard form manager op idle)
  refine ⟨discards, fun idle same flag => ?_, fun busy => ?_⟩
  · rw [discards idle, ← same, ← flag]
  · exact h.event_fails (State.requestTests_busy form manager (.inr op) busy) State.doDiscard

end Sys2Proof.Machine
end

section
/-! PROOFS. Fault reports and notices (R183, R184, R187, R188): what offering a report to the notice queue does where its
kind is disabled, where the queue has room and where it is full, and with it what the whole report does. -/

namespace Sys2Proof.Machine

section
variable {s : State} {r : Report}

/-! ### offering a report to the notice queue -/

/-- R188: a report of a disabled kind is not a drop. -/
theorem State.offerNotice_of_disabled (off : s.mgmt.notice.enables.getLsbD r.counter.val = false) :
    s.offerNotice r = s := by
  simp [State.offerNotice, off]

/-- R187: the record carries the next number and the drops since the record before it. -/
theorem State.offerNotice_of_room (on : s.mgmt.notice.enables.getLsbD r.counter.val = true)
    (room : s.mgmt.notices.length < 16) :
    s.offerNotice r =
      { s with mgmt :=
        { s.mgmt with
          notices := s.mgmt.notices ++ [{ number := s.mgmt.nextNotice, report := r, dropped := s.mgmt.dropped }]
          nextNotice := s.mgmt.nextNotice + 1
          dropped := 0 } } := by
  rw [State.offerNotice, if_pos on, if_pos room]

/-- R188: a record that finds 16 in the queue is dropped. -/
theorem State.offerNotice_of_full (on : s.mgmt.notice.enables.getLsbD r.counter.val = true)
    (full : 16 ≤ s.mgmt.notices.length) : s.offerNotice r = s.dropNotice := by
  rw [State.offerNotice, if_pos on, if_neg full.not_gt]

/-! ### counting and offering

Counting changes neither the enables nor the queue, so the offer goes as it would have gone before the count. -/

theorem State.report_of_disabled (off : s.mgmt.notice.enables.getLsbD r.counter.val = false) :
    s.report r = s.count r.counter :=
  State.offerNotice_of_disabled (s := s.count r.counter) off

theorem State.report_of_room (on : s.mgmt.notice.enables.getLsbD r.counter.val = true)
    (room : s.mgmt.notices.length < 16) :
    s.report r =
      { s with mgmt :=
        { s.mgmt with
          counters := (s.count r.counter).mgmt.counters
          notices := s.mgmt.notices ++ [{ number := s.mgmt.nextNotice, report := r, dropped := s.mgmt.dropped }]
          nextNotice := s.mgmt.nextNotice + 1
          dropped := 0 } } :=
  State.offerNotice_of_room (s := s.count r.counter) on room

theorem State.report_of_full (on : s.mgmt.notice.enables.getLsbD r.counter.val = true)
    (full : 16 ≤ s.mgmt.notices.length) : s.report r = (s.count r.counter).dropNotice :=
  State.offerNotice_of_full (s := s.count r.counter) on full

end

/-! ### the obligation -/

/-- Settles O50: the counter of each kind, then the three outcomes of a report; `State.count` and `State.dropNotice` are
by definition the updates that the statement writes out. -/
theorem reportsCountedAndQueued : Obligations.ReportsCountedAndQueued := by
  refine ⟨fun r => ?kind, fun s r => ⟨State.report_of_disabled, State.report_of_room, State.report_of_full⟩⟩
  case kind => cases r <;> rfl

end Sys2Proof.Machine
end

section
/-! PROOFS. What a command can do: the effect of each command that acts, with the conditions under which it comes, and
what a selection of the transmit arbiter can send. Every statement about all commands is a case analysis of these. -/

namespace Sys2Proof.Machine

/-! ### the commands of the management queue -/

/-- How a request that passes the tests of R154 is executed, by its row of the command table. -/
def Row.run : Row → State → List Byte → Echo → State
  | .get => State.doGet
  | .set => State.doSet
  | .setNotice => State.doSetNotice
  | .commit => State.doCommit
  | .discard => State.doDiscard
  | .enterRetain => State.doEnterRetain
  | .leaveRetain => State.doLeaveRetain
  | .resetPart => State.doResetPart
  | .lapseClear => State.doLapseClear
  | .clear => State.doClear
  | .unknown => fun t _ e => t.reply e .badValue

theorem exec_row (row : Row) (s : State) : exec row.command s = s.event fun s => s.takeRow row row.run := by
  cases row <;> rfl

theorem exec_admission (k : ReqKind) (s : State) : exec k.command s = s.event fun s => s.admission k := by
  cases k <;> rfl

/-- The request `body` is taken from the old end of the management queue (R153). -/
def State.takenFor (s : State) (body : List Byte) (rest : List (List Byte)) : State := (s.taken rest).echoed body 5

/-- Taking a request of a row: nothing happens, or it fails a test and is answered, or it is executed. -/
theorem State.takeRow_cases (s : State) (row : Row) (run : State → List Byte → Echo → State) :
    s.takeRow row run = s ∨ ∃ body rest, s.mgmt.queue = body :: rest ∧ s.mgmt.replies = [] ∧ s.mgmt.resetTaken = false ∧
      rowOf body = row ∧
      ((∃ st, s.requestTests body = some st ∧ s.takeRow row run = (s.takenFor body rest).reply (s.echoOf body) st) ∨
        s.requestTests body = none ∧ s.takeRow row run = run (s.takenFor body rest) body (s.echoOf body)) := by
  rcases hq : s.mgmt.queue with - | ⟨body, rest⟩
  · exact .inl (State.takeRow_waits (.inl hq))
  by_cases may : (s.mgmt.mayTake && rowOf body = row) = true
  · have ⟨⟨replies, waits⟩, row_eq⟩ :
        (s.mgmt.replies = [] ∧ s.mgmt.resetTaken = false) ∧ rowOf body = row := by simpa [Mgmt.mayTake] using may
    refine .inr ⟨body, rest, rfl, replies, waits, row_eq, ?_⟩
    cases ht : s.requestTests body with
    | some st => exact .inl ⟨st, rfl, by simp only [State.takeRow, hq, may, ht]; rfl⟩
    | none => exact .inr ⟨rfl, by simp only [State.takeRow, hq, may, ht]; rfl⟩
  · exact .inl (by simp only [State.takeRow, hq, if_neg may])

/-! ### a selection of the transmit arbiter (R148) -/

/-- What a selection sends, rank by rank. -/
inductive Selects (s : State) : State → Prop
  | answer {a : TrainAnswer} {as : List TrainAnswer} : s.link.state ≠ .down → s.link.answers = a :: as →
      Selects s ((s.setLink { s.link with answers := as }).send kindTrain 0 a.body)
  | offer : s.link.state ≠ .down → 0 < s.link.offers →
      Selects s ((s.setLink { s.link with offers := s.link.offers - 1 }).send kindTrain 0 s.link.offerBody)
  | replay {n : Byte} {ns : List Byte} : s.link.state = .up → s.link.replays = n :: ns →
      Selects s ((s.setLink { s.link with replays := ns }).send kindReplay 0 [n])
  | ack : s.link.state = .up → Selects s (s.send kindAck 0 [])
  | resend {n : Byte} {f : OutFrame} : s.link.resend = some n → s.link.state = .up →
      s.link.ring[(n - s.link.oldest).toNat]? = some f →
      Selects s ((s.setLink
        { s.link with
          resend := if (n - s.link.oldest).toNat + 1 < s.link.ring.length then some (n + 1) else none }).send f.kind n
            f.body)
  | busy {f : OutFrame} : s.link.allowsNew = true → s.mgmt.busyFirst = some f →
      Selects s (({ s with mgmt := { s.mgmt with busyHold := none } }).takeNew f)
  | reply {f : OutFrame} {fs : List OutFrame} (busy : Option BusyReply) : s.link.allowsNew = true →
      s.mgmt.replies = f :: fs →
      Selects s (({ s with mgmt := { s.mgmt with replies := fs, busyHold := busy } }).takeNew f)
  | notice {n : Notice} {ns : List Notice} : s.link.allowsNew = true → s.mgmt.notices = n :: ns →
      Selects s (({ s with mgmt := { s.mgmt with notices := ns } }).takeNew (.notice s.mgmt.notice.destination n))
  | replyHold {f : OutFrame} : s.link.allowsNew = true → s.adm.replyHold = some f →
      Selects s ((({ s with adm := { s.adm with replyHold := none } }).setLink
        { s.link with replyTurn := .cancelReply }).takeNew f)
  | cancelHold {f : OutFrame} : s.link.allowsNew = true → s.sched.cancelHold = some f →
      Selects s ((({ s with sched := { s.sched with cancelHold := none } }).setLink
        { s.link with replyTurn := .refuse }).takeNew f)
  | final {r : ReqNo} {p : Place} {f : OutFrame} : s.link.allowsNew = true → s.candidate r = some p →
      s.finalFrame r p = some f →
      Selects s ((((s.releasePlace r p).setLink { s.link with rr := r + 1 }).takeNew f).settle)

theorem State.releasePlace_link (s : State) (r : ReqNo) (p : Place) : (s.releasePlace r p).link = s.link := by
  unfold State.releasePlace
  dsimp only
  split <;> rfl

/-- The requester that rank 5 serves presents its candidate and the candidate's frame. -/
theorem State.finalChoice_presents {s : State} {r : ReqNo} {p : Place} {f : OutFrame}
    (h : s.finalChoice = some (r, p, f)) : s.candidate r = some p ∧ s.finalFrame r p = some f := by
  obtain ⟨r', -, hr⟩ := List.exists_of_findSome?_eq_some h
  simp only [State.presents, Option.map_eq_some_iff] at hr
  obtain ⟨⟨p', f'⟩, hp, heq⟩ := hr
  cases heq
  split at hp
  next q hq =>
    obtain ⟨g, hg, heq⟩ := Option.map_eq_some_iff.1 hp
    cases heq
    exact ⟨hq, hg⟩
  next => cases hp

theorem State.sendControl_selects {s t : State} (h : s.sendControl = some t) : Selects s t := by
  unfold State.sendControl at h
  dsimp only at h
  split at h
  next => cases h
  next up =>
    split at h
    next a as ha => cases h; exact .answer up ha
    next =>
      split at h
      next ho => cases h; exact .offer up ho
      next =>
        split at h
        next up =>
          split at h
          next n ns hn => cases h; exact .replay up hn
          next =>
            split at h
            next => cases h; exact .ack up
            next => cases h
        next => cases h

theorem State.sendResend_selects {s t : State} (h : s.sendResend = some t) : Selects s t := by
  unfold State.sendResend at h
  dsimp only at h
  split at h
  next n hn =>
    split at h
    next f hf =>
      split at h
      next up => cases h; exact .resend hn up hf
      next => cases h
    next => cases h
  next => cases h

theorem State.takeManageReply_selects {s t : State} (new : s.link.allowsNew = true) (h : s.takeManageReply = some t) :
    Selects s t := by
  unfold State.takeManageReply at h
  split at h
  next f _ hf => cases h; exact .busy new hf
  next f fs _ hr => cases h; exact .reply _ new hr
  next => cases h

theorem State.takeNotice_selects {s t : State} (new : s.link.allowsNew = true) (h : s.takeNotice = some t) :
    Selects s t := by
  unfold State.takeNotice at h
  split at h
  next n ns hn =>
    split at h
    next => cases h; exact .notice new hn
    next => cases h
  next => cases h

theorem State.takeHold_selects {s t : State} (new : s.link.allowsNew = true) (h : s.takeHold = some t) :
    Selects s t := by
  have reply (h : s.takeReplyHold = some t) : Selects s t := by
    obtain ⟨f, hf, rfl⟩ := Option.map_eq_some_iff.1 h
    exact .replyHold new hf
  have cancel (h : s.takeCancelHold = some t) : Selects s t := by
    obtain ⟨f, hf, rfl⟩ := Option.map_eq_some_iff.1 h
    exact .cancelHold new hf
  unfold State.takeHold at h
  split at h
  next =>
    rcases Option.or_eq_some_iff.1 h with h | ⟨-, h⟩
    · exact reply h
    · exact cancel h
  next =>
    rcases Option.or_eq_some_iff.1 h with h | ⟨-, h⟩
    · exact cancel h
    · exact reply h

theorem State.takeFinal_selects {s t : State} (new : s.link.allowsNew = true) (h : s.takeFinal = some t) :
    Selects s t := by
  obtain ⟨⟨r, p, f⟩, hc, rfl⟩ := Option.map_eq_some_iff.1 h
  obtain ⟨hp, hf⟩ := State.finalChoice_presents hc
  simpa only [State.releasePlace_link] using Selects.final new hp hf

/-- R148: a selection sends a frame of one of the ranks. -/
theorem State.select_selects {s t : State} (h : s.select = some t) : Selects s t := by
  rcases Option.or_eq_some_iff.1 h with h | ⟨-, h⟩
  · exact State.sendControl_selects h
  rcases Option.or_eq_some_iff.1 h with h | ⟨-, h⟩
  · exact State.sendResend_selects h
  unfold State.sendNew at h
  split at h
  next new =>
    rcases Option.or_eq_some_iff.1 h with h | ⟨-, h⟩
    · exact State.takeManageReply_selects new h
    rcases Option.or_eq_some_iff.1 h with h | ⟨-, h⟩
    · exact State.takeNotice_selects new h
    rcases Option.or_eq_some_iff.1 h with h | ⟨-, h⟩
    · exact State.takeHold_selects new h
    · exact State.takeFinal_selects new h
  next => cases h

/-! ### the effects of the commands -/

/-- What the commands of the two pins do. -/
inductive PinEffect (s : State) : Instr → State → Prop
  | assert : s.rst = none → PinEffect s .resetNAssert s.beginReset
  | release {kind : StartKind} : s.rst = some kind → PinEffect s .resetNRelease (s.endReset kind)
  | present : PinEffect s .laneSignalPresent { s with laneSignal := true }
  | trains : s.rst = none → s.link.state = .down →
      PinEffect s .laneSignalPresent ({ s with laneSignal := true } : State).enterTraining
  | lost : PinEffect s .signalLoss { s with laneSignal := false }
  | recovers : s.rst = none → s.link.state = .up →
      PinEffect s .signalLoss (({ s with laneSignal := false } : State).enterRecovery .signalLoss)
  | down : s.rst = none → s.link.state = .training →
      PinEffect s .signalLoss ({ s with laneSignal := false } : State).enterDown

/-- What every other command does where it acts. An effect that several commands share names none of them. -/
inductive Effect (s : State) : Instr → State → Prop
  | badCheck {bytes : List Byte} : Effect s (.badCheckFrame bytes) (s.count 8)
  | badCheckUp {bytes : List Byte} : s.link.state = .up → Effect s (.badCheckFrame bytes) (s.count 8).askReplay
  | ackRange {c : Instr} : s.link.state = .up → Effect s c (s.enterRecovery .ackRange)
  | ackCredit {c : Instr} {f : Frame} : s.link.state = .up → s.link.inWindow f.ack = true →
      Effect s c (s.takeAckCredit f)
  | sequenced {bytes : List Byte} {f : Frame} : s.link.state = .up → s.link.inWindow f.ack = true →
      Effect s (.inboundSequencedFrame bytes) ((s.takeAckCredit f).takeSequenced f)
  | hostReplay {bytes : List Byte} {f : Frame} {n : Byte} : s.link.state = .up → s.link.inWindow f.ack = true →
      Effect s (.hostReplay bytes) ((s.takeAckCredit f).hostReplay n)
  | hostTrain {bytes : List Byte} {f : Frame} : Effect s (.hostTrain bytes) (s.hostTrain f)
  | ackTimer {d : Nat} : s.link.ackTimer = some d → s.link.state = .up → Effect s .ackTimerExpiry (s.reach d).ackExpires
  | markTimer {d : Nat} : s.link.markTimer = some d →
      Effect s .replayMarkTimerExpiry ((s.reach d).setLink { s.link with replayMark := none, markTimer := none })
  | holdTimer {d : Nat} : s.link.holdTimer = some d → Effect s .holdTimerExpiry (s.reach d).holdExpires
  | offerTimer {d : Nat} : s.link.offerTimer = some d →
      Effect s .offerTimerExpiry ((s.reach d).setLink
        { s.link with offers := s.link.offers + 1, offerTimer := some ((s.reach d).now + offerTime) })
  | stateTimer {c : Instr} {d : Nat} : s.link.state = .training ∨ s.link.state = .recovery →
      Effect s c (s.reach d).enterDown
  | transmit {t : State} : Selects s t → Effect s .transmitSelect t.resetIfTaken
  | admission {k : ReqKind} {body : List Byte} : s.adm.replyHold = none →
      Effect s k.command ((s.dropRx RxFrame.isData).takeRequest k body)
  | cancel {body : List Byte} : s.sched.cancelHold = none →
      Effect s .cancel ((s.dropRx RxFrame.isCancel).takeCancel body)
  | manage {body : List Byte} : s.mgmt.queue.length < 4 →
      Effect s .manageFrame
        (({ s with mgmt := { s.mgmt with queue := s.mgmt.queue ++ [body] } }).dropRx RxFrame.isManage)
  | manageBusy {body : List Byte} : Effect s .manageFrame ((s.busyReply body).dropRx RxFrame.isManage)
  | fails {row : Row} {body : List Byte} {rest : List (List Byte)} {st : MStatus} : s.mgmt.queue = body :: rest →
      s.mgmt.replies = [] → Effect s row.command ((s.takenFor body rest).reply (s.echoOf body) st)
  | runs {row : Row} {body : List Byte} {rest : List (List Byte)} : s.mgmt.queue = body :: rest → s.mgmt.replies = [] →
      s.mgmt.resetTaken = false → rowOf body = row → s.requestTests body = none →
      Effect s row.command (row.run (s.takenFor body rest) body (s.echoOf body))
  | tInit {d : Nat} : s.port.tInit = some d → s.port.mode = .init →
      Effect s .tInitExpiry
        (({ s.reach d with port := { s.port with tInit := none } } : State).leaveIdleMode.settle)
  | tExit {d : Nat} : s.port.tExit = some d → s.port.mode = .waking →
      Effect s .tExitExpiry
        ((({ s.reach d with port := { s.port with tExit := none } } : State).allBanks .closed).leaveIdleMode.settle)
  | tOa {b : BankNo} {d : Nat} : (s.bank b).tOa = some d → (s.bank b).state = .opening →
      Effect s (.tOaExpiry b) ((s.reach d).setBank b { s.bank b with state := .opened, tOa := none }).settle
  | tDwell {b : BankNo} {d : Nat} : (s.bank b).tDwell = some d →
      Effect s (.tDwellExpiry b) ((s.reach d).setBank b { s.bank b with dwellMet := true, tDwell := none }).settle
  | tWrec {b : BankNo} {d : Nat} : (s.bank b).tWrec = some d →
      Effect s (.tWrecExpiry b) ((s.reach d).setBank b { s.bank b with recoveryMet := true, tWrec := none }).settle
  | tClose {b : BankNo} {d : Nat} : (s.bank b).tClose = some d → (s.bank b).state = .closing →
      Effect s (.tCloseExpiry b) ((s.reach d).setBank b { s.bank b with state := .closed, tClose := none }).settle
  | tRen {b : BankNo} {d : Nat} : (s.bank b).tRen = some d → (s.bank b).state = .renewing →
      Effect s (.tRenExpiry b)
        (((s.reach d).setBank b { s.bank b with state := .closed, tRen := none }).renewDone b).settle
  | idleClose {b : BankNo} {d : Nat} : s.sched.idle.get b = .running d →
      Effect s (.idleCloseExpiry b)
        ({ s.reach d with sched := { s.sched with idle := s.sched.idle.set b .expired } } : State).settle
  | interval {c : Instr} {d : Nat} : Effect s c (s.reach d).settle
  | completes {b : BankNo} {ups : List Upset} {d : Nat} {kind : AccessKind} {e : Entry} :
      (s.bank b).state = .accessing → s.issuedOn b = some e →
      Effect s (.accessCompletion b ups)
        (((((s.reach d).completeBank b kind).accessEffect e (s.bank b).oldChunks ups).completeEntry b e).settle)
  | completesNone {b : BankNo} {ups : List Upset} {d : Nat} {kind : AccessKind} :
      (s.bank b).state = .accessing → Effect s (.accessCompletion b ups) ((s.reach d).completeBank b kind).settle
  | tick {t : TickTimer} : s.ren.tick = some t → Effect s .tick ((s.reach t.at_).tickRecords.startTick).settle

/-- A frame in UP is discarded with the link in RECOVERY, or its ack and credit are taken and it is handled. -/
theorem State.takeUpFrame_cases (s : State) (f : Frame) (k : State → State) :
    s.link.inWindow f.ack = true ∧ s.takeUpFrame f k = k (s.takeAckCredit f) ∨
      s.takeUpFrame f k = s.enterRecovery .ackRange := by
  unfold State.takeUpFrame
  split
  next h => exact .inl ⟨h, rfl⟩
  next => exact .inr rfl

/-- An event happens only out of reset. -/
theorem State.event_effect {s t : State} {c : Instr} {f : State → State} (h : s.event f = .next t)
    (acts : f s = s ∨ Effect s c (f s)) : t = s ∨ s.rst = none ∧ Effect s c t := by
  cases reset : s.rst with
  | none =>
    rw [State.event_running reset] at h
    cases h
    exact acts.imp_right fun e => ⟨rfl, e⟩
  | some kind =>
    rw [State.event_inReset (by simp [reset])] at h
    cases h
    exact .inl rfl

section
variable {s t : State}

theorem effect_badCheckFrame {bytes : List Byte} (h : exec (.badCheckFrame bytes) s = .next t) :
    t = s ∨ s.rst = none ∧ Effect s (.badCheckFrame bytes) t := by
  dsimp only [exec, execBadCheckFrame] at h
  refine State.event_effect h ?_
  split
  · split
    next up => exact .inr (.badCheckUp up)
    next => exact .inr .badCheck
  · exact .inl rfl

theorem effect_inboundSequencedFrame {bytes : List Byte} (h : exec (.inboundSequencedFrame bytes) s = .next t) :
    t = s ∨ s.rst = none ∧ Effect s (.inboundSequencedFrame bytes) t := by
  dsimp only [exec, execInboundSequencedFrame] at h
  refine State.event_effect h ?_
  split
  next f _ =>
    split
    next up =>
      rcases s.takeUpFrame_cases f fun s => s.takeSequenced f with ⟨win, e⟩ | e
      · exact .inr (e ▸ .sequenced up.2 win)
      · exact .inr (e ▸ .ackRange up.2)
    next => exact .inl rfl
  next => exact .inl rfl

theorem effect_hostAck {bytes : List Byte} (h : exec (.hostAck bytes) s = .next t) :
    t = s ∨ s.rst = none ∧ Effect s (.hostAck bytes) t := by
  dsimp only [exec, execHostAck] at h
  refine State.event_effect h ?_
  split
  next f _ =>
    split
    next up =>
      rcases s.takeUpFrame_cases f id with ⟨win, e⟩ | e
      · exact .inr (e ▸ .ackCredit up.2 win)
      · exact .inr (e ▸ .ackRange up.2)
    next => exact .inl rfl
  next => exact .inl rfl

theorem effect_hostReplay {bytes : List Byte} (h : exec (.hostReplay bytes) s = .next t) :
    t = s ∨ s.rst = none ∧ Effect s (.hostReplay bytes) t := by
  dsimp only [exec, execHostReplay] at h
  refine State.event_effect h ?_
  split
  next f _ =>
    split
    next up =>
      rcases s.takeUpFrame_cases f _ with ⟨win, e⟩ | e
      · rw [e]
        split
        next n _ => exact .inr (.hostReplay up.2 win)
        next => exact .inr (.ackCredit up.2 win)
      · exact .inr (e ▸ .ackRange up.2)
    next => exact .inl rfl
  next => exact .inl rfl

theorem effect_hostTrain {bytes : List Byte} (h : exec (.hostTrain bytes) s = .next t) :
    t = s ∨ s.rst = none ∧ Effect s (.hostTrain bytes) t := by
  dsimp only [exec, execHostTrain] at h
  refine State.event_effect h ?_
  split
  · split
    · exact .inr .hostTrain
    · exact .inl rfl
  · exact .inl rfl

/-- The link timers: a timer that runs, in the link state in which it counts. -/
theorem effect_linkTimer {c : Instr}
    (timer : c = .ackTimerExpiry ∨ c = .replayMarkTimerExpiry ∨ c = .holdTimerExpiry ∨ c = .offerTimerExpiry ∨
      c = .trainingTimeout ∨ c = .recoveryTimeout)
    (h : exec c s = .next t) : t = s ∨ s.rst = none ∧ Effect s c t := by
  rcases timer with rfl | rfl | rfl | rfl | rfl | rfl
  · dsimp only [exec, execAckTimerExpiry] at h
    refine State.event_effect h ?_
    split
    · split
      · exact .inr (.ackTimer ‹_› ‹_›)
      · exact .inl rfl
    · exact .inl rfl
  · dsimp only [exec, execReplayMarkTimerExpiry] at h
    refine State.event_effect h ?_
    split
    · exact .inr (.markTimer ‹_›)
    · exact .inl rfl
  · dsimp only [exec, execHoldTimerExpiry] at h
    refine State.event_effect h ?_
    split
    · exact .inr (.holdTimer ‹_›)
    · exact .inl rfl
  · dsimp only [exec, execOfferTimerExpiry] at h
    refine State.event_effect h ?_
    split
    · exact .inr (.offerTimer ‹_›)
    · exact .inl rfl
  · dsimp only [exec, execTrainingTimeout] at h
    refine State.event_effect h ?_
    split
    · split
      · exact .inr (.stateTimer (.inl ‹_›))
      · exact .inl rfl
    · exact .inl rfl
  · dsimp only [exec, execRecoveryTimeout] at h
    refine State.event_effect h ?_
    split
    · split
      · exact .inr (.stateTimer (.inr ‹_›))
      · exact .inl rfl
    · exact .inl rfl

theorem effect_transmitSelect (h : exec .transmitSelect s = .next t) :
    t = s ∨ s.rst = none ∧ Effect s .transmitSelect t := by
  dsimp only [exec, execTransmitSelect] at h
  refine State.event_effect h ?_
  split
  next u hu => exact .inr (.transmit (State.select_selects hu))
  next => exact .inl rfl

theorem effect_admission {k : ReqKind} (h : exec k.command s = .next t) :
    t = s ∨ s.rst = none ∧ Effect s k.command t := by
  refine State.event_effect (exec_admission k s ▸ h) ?_
  unfold State.admission
  split
  next f _ =>
    split
    next may => exact .inr (.admission may.2)
    next => exact .inl rfl
  next => exact .inl rfl

theorem effect_cancel (h : exec .cancel s = .next t) : t = s ∨ s.rst = none ∧ Effect s .cancel t := by
  dsimp only [exec, execCancel] at h
  refine State.event_effect h ?_
  split
  · split
    next may => exact .inr (.cancel may)
    next => exact .inl rfl
  · exact .inl rfl

theorem effect_manageFrame (h : exec .manageFrame s = .next t) : t = s ∨ s.rst = none ∧ Effect s .manageFrame t := by
  dsimp only [exec, execManageFrame] at h
  refine State.event_effect h ?_
  split
  · split
    next room => exact .inr (.manage room)
    next =>
      split
      · exact .inr .manageBusy
      · exact .inl rfl
  · exact .inl rfl

theorem effect_row {row : Row} (h : exec row.command s = .next t) : t = s ∨ s.rst = none ∧ Effect s row.command t := by
  refine State.event_effect (exec_row row s ▸ h) ?_
  rcases s.takeRow_cases row row.run with e | ⟨body, rest, queue, replies, waits, row_eq, ⟨st, -, e⟩ | ⟨passes, e⟩⟩
  · exact .inl e
  · exact .inr (e ▸ .fails queue replies)
  · exact .inr (e ▸ .runs queue replies waits row_eq passes)

/-- The start intervals and the bank timers. -/
theorem effect_tInitExpiry (h : exec .tInitExpiry s = .next t) : t = s ∨ s.rst = none ∧ Effect s .tInitExpiry t := by
  dsimp only [exec, execTInitExpiry] at h
  refine State.event_effect h ?_
  split
  · split
    next mode => exact .inr (.tInit ‹_› mode)
    next => exact .inl rfl
  · exact .inl rfl

theorem effect_tExitExpiry (h : exec .tExitExpiry s = .next t) : t = s ∨ s.rst = none ∧ Effect s .tExitExpiry t := by
  dsimp only [exec, execTExitExpiry] at h
  refine State.event_effect h ?_
  split
  · split
    next mode => exact .inr (.tExit ‹_› mode)
    next => exact .inl rfl
  · exact .inl rfl

theorem effect_bankTimer {b : BankNo} {c : Instr}
    (timer : c = .tOaExpiry b ∨ c = .tDwellExpiry b ∨ c = .tWrecExpiry b ∨ c = .tCloseExpiry b ∨ c = .tRenExpiry b)
    (h : exec c s = .next t) : t = s ∨ s.rst = none ∧ Effect s c t := by
  rcases timer with rfl | rfl | rfl | rfl | rfl
  · dsimp only [exec, execTOaExpiry] at h
    refine State.event_effect h ?_
    split
    · split
      · exact .inr (.tOa ‹_› ‹_›)
      · exact .inl rfl
    · exact .inl rfl
  · dsimp only [exec, execTDwellExpiry] at h
    refine State.event_effect h ?_
    split
    · exact .inr (.tDwell ‹_›)
    · exact .inl rfl
  · dsimp only [exec, execTWrecExpiry] at h
    refine State.event_effect h ?_
    split
    · exact .inr (.tWrec ‹_›)
    · exact .inl rfl
  · dsimp only [exec, execTCloseExpiry] at h
    refine State.event_effect h ?_
    split
    · split
      · exact .inr (.tClose ‹_› ‹_›)
      · exact .inl rfl
    · exact .inl rfl
  · dsimp only [exec, execTRenExpiry] at h
    refine State.event_effect h ?_
    split
    · split
      · exact .inr (.tRen ‹_› ‹_›)
      · exact .inl rfl
    · exact .inl rfl

theorem effect_idleCloseExpiry {b : BankNo} (h : exec (.idleCloseExpiry b) s = .next t) :
    t = s ∨ s.rst = none ∧ Effect s (.idleCloseExpiry b) t := by
  dsimp only [exec, execIdleCloseExpiry] at h
  refine State.event_effect h ?_
  split
  next d hd => exact .inr (.idleClose hd)
  next => exact .inl rfl

theorem effect_interval {c : Instr} (passed : c = .tOoPassed ∨ c = .tQuadPassed ∨ c = .tTurnPassed)
    (h : exec c s = .next t) : t = s ∨ s.rst = none ∧ Effect s c t := by
  rcases passed with rfl | rfl | rfl
  · dsimp only [exec, execTOoPassed] at h
    refine State.event_effect h ?_
    split
    · exact .inr .interval
    · exact .inl rfl
  · dsimp only [exec, execTQuadPassed] at h
    refine State.event_effect h ?_
    split
    · split
      · exact .inl rfl
      · exact .inr .interval
    · exact .inl rfl
  · dsimp only [exec, execTTurnPassed] at h
    refine State.event_effect h ?_
    split
    · exact .inr .interval
    · exact .inl rfl

theorem effect_accessCompletion {b : BankNo} {ups : List Upset} (h : exec (.accessCompletion b ups) s = .next t) :
    t = s ∨ s.rst = none ∧ Effect s (.accessCompletion b ups) t := by
  dsimp only [exec, execAccessCompletion] at h
  refine State.event_effect h ?_
  split
  next d kind hd hk =>
    split
    next accessing =>
      split
      next e he => exact .inr (.completes accessing (by simpa [State.completeBank, State.issuedOn] using he))
      next => exact .inr (.completesNone accessing)
    next => exact .inl rfl
  next => exact .inl rfl

theorem effect_tick (h : exec .tick s = .next t) : t = s ∨ s.rst = none ∧ Effect s .tick t := by
  dsimp only [exec, execTick] at h
  refine State.event_effect h ?_
  split
  next u hu => exact .inr (.tick hu)
  next => exact .inl rfl

theorem effect_resetNRelease (h : exec .resetNRelease s = .next t) : t = s ∨ PinEffect s .resetNRelease t := by
  dsimp only [exec, execResetNRelease] at h
  split at h
  next kind reset => cases h; exact .inr (.release reset)
  next => cases h; exact .inl rfl

theorem effect_laneSignalPresent (h : exec .laneSignalPresent s = .next t) : PinEffect s .laneSignalPresent t := by
  cases h
  split
  next c => exact .trains c.2.1 c.2.2
  next => exact .present

theorem effect_signalLoss (h : exec .signalLoss s = .next t) : PinEffect s .signalLoss t := by
  cases h
  split
  next => exact .lost
  next running =>
    have running : s.rst = none := by simpa using running
    split
    next up => exact .recovers running up
    next training => exact .down running training
    all_goals exact .lost

/-- What any command can do: nothing, an effect of the pins, or, out of reset, the effect of a command. -/
theorem exec_cases {c : Instr} (h : exec c s = .next t) : t = s ∨ PinEffect s c t ∨ s.rst = none ∧ Effect s c t := by
  cases c
  case resetNAssert =>
    cases reset : s.rst with
    | none => cases (State.event_running reset).symm.trans h; exact .inr (.inl (.assert reset))
    | some k => cases (State.event_inReset (by simp [reset])).symm.trans h; exact .inl rfl
  case resetNRelease => exact (effect_resetNRelease h).imp_right .inl
  case laneSignalPresent => exact .inr (.inl (effect_laneSignalPresent h))
  case signalLoss => exact .inr (.inl (effect_signalLoss h))
  case badCheckFrame => exact (effect_badCheckFrame h).imp_right .inr
  case inboundSequencedFrame => exact (effect_inboundSequencedFrame h).imp_right .inr
  case hostAck => exact (effect_hostAck h).imp_right .inr
  case hostReplay => exact (effect_hostReplay h).imp_right .inr
  case hostTrain => exact (effect_hostTrain h).imp_right .inr
  case transmitSelect => exact (effect_transmitSelect h).imp_right .inr
  case read => exact (effect_admission (k := .read) h).imp_right .inr
  case write => exact (effect_admission (k := .write) h).imp_right .inr
  case maskedWrite => exact (effect_admission (k := .masked) h).imp_right .inr
  case cancel => exact (effect_cancel h).imp_right .inr
  case manageFrame => exact (effect_manageFrame h).imp_right .inr
  case get => exact (effect_row (row := .get) h).imp_right .inr
  case set => exact (effect_row (row := .set) h).imp_right .inr
  case setNoticeSettings => exact (effect_row (row := .setNotice) h).imp_right .inr
  case commit => exact (effect_row (row := .commit) h).imp_right .inr
  case discard => exact (effect_row (row := .discard) h).imp_right .inr
  case enterRetain => exact (effect_row (row := .enterRetain) h).imp_right .inr
  case leaveRetain => exact (effect_row (row := .leaveRetain) h).imp_right .inr
  case resetPart => exact (effect_row (row := .resetPart) h).imp_right .inr
  case lapseClear => exact (effect_row (row := .lapseClear) h).imp_right .inr
  case clear => exact (effect_row (row := .clear) h).imp_right .inr
  case unknownOperation => exact (effect_row (row := .unknown) h).imp_right .inr
  case tInitExpiry => exact (effect_tInitExpiry h).imp_right .inr
  case tExitExpiry => exact (effect_tExitExpiry h).imp_right .inr
  case accessCompletion => exact (effect_accessCompletion h).imp_right .inr
  case idleCloseExpiry => exact (effect_idleCloseExpiry h).imp_right .inr
  case tick => exact (effect_tick h).imp_right .inr
  case ackTimerExpiry | replayMarkTimerExpiry | holdTimerExpiry | offerTimerExpiry | trainingTimeout | recoveryTimeout =>
    exact (effect_linkTimer (by simp) h).imp_right .inr
  case tOaExpiry b | tDwellExpiry b | tWrecExpiry b | tCloseExpiry b | tRenExpiry b =>
    exact (effect_bankTimer (b := b) (by simp) h).imp_right .inr
  case tOoPassed | tQuadPassed | tTurnPassed => exact (effect_interval (by simp) h).imp_right .inr

/-- A step runs a command, or lets 1 ns pass. -/
theorem step_cases (h : step s = .next t) :
    t = { s with now := s.now + 1 } ∨ ∃ c rest, exec c { s with pending := rest } = .next t := by
  unfold step at h
  split at h
  next c rest _ => exact .inr ⟨c, rest, h⟩
  next => cases h; exact .inl rfl

end

end Sys2Proof.Machine
end

section
/-! PROOFS. What is kept by every command: a property of the state that each shared operation of the model keeps is kept
by every command's effect. The operations are the fields of `Kept`; each invariant of the blocks other than the link
controller and the management unit is settled by naming what it does with them. -/

namespace Sys2Proof.Machine

/-- What the link controller's commands are made of keeps `P`: its own record, the clock, reports, the end of an event, a
session loss and a reset. -/
structure KeptByLink (P : State → Prop) : Prop where
  link : ∀ s l, P s → P { s with link := l }
  clock : ∀ s n, P s → P { s with now := n }
  count : ∀ s i, P s → P (s.count i)
  report : ∀ s r, P s → P (s.report r)
  settle : ∀ s, P s → P s.settle
  lose : ∀ s, P s → P s.loseSession
  restart : ∀ s, P s → P s.resetPart

namespace KeptByLink
variable {P : State → Prop} (K : KeptByLink P) {s : State}
include K

theorem reach (d : Nat) (h : P s) : P (s.reach d) := K.clock s _ h

theorem setLink (l : Link) (h : P s) : P (s.setLink l) := K.link s l h

theorem askReplay (h : P s) : P s.askReplay := by
  unfold State.askReplay
  split
  · exact K.setLink _ h
  · exact h

theorem takeAckCredit (f : Frame) (h : P s) : P (s.takeAckCredit f) := by
  rw [State.takeAckCredit_frame]
  exact K.link s _ h

theorem takeSequenced (f : Frame) (h : P s) : P (s.takeSequenced f) := by
  unfold State.takeSequenced
  dsimp only
  split
  · split
    · unfold State.acceptFrame
      dsimp only
      split
      · exact K.setLink _ h
      · exact K.report _ _ (K.setLink _ h)
    · exact K.askReplay (K.report _ _ h)
  · split
    · exact K.askReplay h
    · exact K.setLink _ h

theorem holdExpires (h : P s) : P s.holdExpires := by
  unfold State.holdExpires
  dsimp only
  split
  · exact K.settle _ (K.lose _ (K.setLink _ h))
  · exact K.setLink _ h

theorem resetIfTaken (h : P s) : P s.resetIfTaken := by
  unfold State.resetIfTaken
  split
  · exact K.restart s h
  · exact h

theorem enterRecovery (cause : RecoveryCause) (h : P s) : P (s.enterRecovery cause) := by
  unfold State.enterRecovery
  refine K.resetIfTaken ?_
  dsimp only
  split
  · exact K.holdExpires (K.setLink _ (K.report _ _ h))
  · exact K.setLink _ (K.report _ _ h)

theorem hostReplay (n : Byte) (h : P s) : P (s.hostReplay n) := by
  unfold State.hostReplay
  split
  · exact K.count _ _ (K.setLink _ h)
  · exact K.enterRecovery _ h

theorem newSession (credit : Byte) (h : P s) : P (s.newSession credit) := by
  unfold State.newSession
  refine K.setLink _ ?_
  split
  · exact K.settle _ (K.lose s h)
  · exact h

theorem hostTrain (f : Frame) (h : P s) : P (s.hostTrain f) := by
  have train (s : State) (h : P s) : P (match f.body with
      | [_, session, mode, _] =>
        if s.link.state = .up then s.takeTrainUp (trainModeOf mode) session f.credit
        else s.takeTrain (trainModeOf mode) session f.ack f.credit
      | _ => s) := by
    split
    · split
      · unfold State.takeTrainUp
        split
        · exact K.setLink _ h
        · exact K.newSession _ h
      · unfold State.takeTrain
        split
        · exact K.setLink _ h
        · exact K.newSession _ h
    · exact h
  refine train _ ?_
  split
  · exact K.setLink _ h
  · exact h

theorem ackExpires (h : P s) : P s.ackExpires := by
  unfold State.ackExpires
  dsimp only
  split
  · exact K.count _ _ (K.setLink _ (K.setLink _ h))
  · exact K.enterRecovery _ (K.setLink _ h)

end KeptByLink

/-- The operations of the model that the commands are made of keep `P`, each where the commands use it. -/
structure Kept (P : State → Prop) : Prop where
  link : ∀ s l, P s → P { s with link := l }
  lane : ∀ s x, P s → P { s with txLane := x }
  pin : ∀ s x, P s → P { s with laneSignal := x }
  clock : ∀ s n, P s → P { s with now := n }
  draws : ∀ s n, P s → P { s with draws := n }
  replyHold : ∀ s x, P s → P { s with adm := { s.adm with replyHold := x } }
  cancelHold : ∀ s x, P s → P { s with sched := { s.sched with cancelHold := x } }
  idle : ∀ s x, P s → P { s with sched := { s.sched with idle := x } }
  mgmt : ∀ s m, m.active = s.mgmt.active → m.staged = s.mgmt.staged →
    (m.commit.state ≠ .none → s.mgmt.commit.state ≠ .none) → P s → P { s with mgmt := m }
  setStaged : ∀ s obj v, s.mgmt.commit.state = .none → P s →
    P { s with mgmt := s.mgmt.setStaged (s.mgmt.staged.setValue obj v) }
  discard : ∀ s, P s → P { s with mgmt := { s.mgmt with staged := s.mgmt.active } }
  setCommit : ∀ s c, validate s.mgmt.staged = none → P s → P (s.setCommit c)
  commitHalt : ∀ s, P s → P s.requestCommitHalt
  drainHalt : ∀ s, P s → P s.requestDrainHalt
  withdrawDrainHalt : ∀ s, P s → P s.withdrawDrainHalt
  commitPoint : ∀ s, s.mgmt.commit.state ≠ .none ∨ validate s.mgmt.staged = none → P s → P s.commitPoint
  halted : ∀ s, s.port.mode = .halting → s.banksIn .closed = 16 → P s → P (s.setMode .halted)
  holdReq : ∀ s b, P s → P { s with port := { s.port with holdReq := b } }
  hold : ∀ s, s.port.mode = .halted → P s → P s.issueHold
  wake : ∀ s, P s → P s.wake
  issue : ∀ s c, s.choice = some c → P s → P (s.issue c)
  lose : ∀ s, P s → P s.loseSession
  restart : ∀ s, P s → P s.resetPart
  admits : ∀ s k body q w, s.admissionChecks k body = .ok (q, w) → P s → P (s.admitRequest k q w)
  cancel : ∀ s e, e ∈ s.sched.list → e.tagHeld = true → e.state = .waiting → P s →
    P (((s.freeWriteSlot e).removeEntry e).readyPlace e.requester e.tag .void)
  release : ∀ s r p f, s.candidate r = some p → s.finalFrame r p = some f → P s → P (s.releasePlace r p)
  tInit : ∀ s, s.port.mode = .init → P s →
    P ({ s with port := { s.port with tInit := none } } : State).leaveIdleMode
  tExit : ∀ s, s.port.mode = .waking → P s →
    P (({ s with port := { s.port with tExit := none } } : State).allBanks .closed).leaveIdleMode
  tOa : ∀ s b, (s.bank b).state = .opening → P s → P (s.setBank b { s.bank b with state := .opened, tOa := none })
  tDwell : ∀ s b, P s → P (s.setBank b { s.bank b with dwellMet := true, tDwell := none })
  tWrec : ∀ s b, P s → P (s.setBank b { s.bank b with recoveryMet := true, tWrec := none })
  tClose : ∀ s b, (s.bank b).state = .closing → P s →
    P (s.setBank b { s.bank b with state := .closed, tClose := none })
  tRen : ∀ s b, (s.bank b).state = .renewing → P s →
    P ((s.setBank b { s.bank b with state := .closed, tRen := none }).renewDone b)
  completeBank : ∀ s b kind, (s.bank b).state = .accessing → P s → P (s.completeBank b kind)
  tick : ∀ s t, s.ren.tick = some t → P s → P s.tickRecords.startTick
  lapses : ∀ s (x : BankNo → Bool), P s →
    P { s with ren :=
      { s.ren with records := s.ren.records.mapIdx fun b r => if x b then { r with lapse := false } else r } }

namespace Kept
variable {P : State → Prop} (K : Kept P) {s : State}
include K

/-! ### the clock, reports and replies -/

theorem reach (d : Nat) (h : P s) : P (s.reach d) := K.clock s _ h

theorem setLink (l : Link) (h : P s) : P (s.setLink l) := K.link s l h

theorem count (i : Fin 11) (h : P s) : P (s.count i) := K.mgmt s _ rfl rfl id h

theorem report (r : Report) (h : P s) : P (s.report r) := by
  have offer (s : State) (h : P s) : P (s.offerNotice r) := by
    unfold State.offerNotice
    split
    · split
      · exact K.mgmt s _ rfl rfl id h
      · exact K.count 10 (K.mgmt s _ rfl rfl id h)
    · exact h
  exact offer _ (K.count _ h)

theorem setPart (p : Part) (h : P s) : P (s.setPart p) := K.mgmt s _ rfl rfl id h

theorem reply (e : Echo) (st : MStatus) (v : List Byte) (h : P s) : P (s.reply e st v) := K.mgmt s _ rfl rfl id h

theorem echoed (body : List Byte) (n : Nat) (h : P s) : P (s.echoed body n) := by
  unfold State.echoed
  split
  · exact K.draws s _ h
  · exact h

theorem takenFor (body : List Byte) (rest : List (List Byte)) (h : P s) : P (s.takenFor body rest) :=
  K.echoed body 5 (K.mgmt s _ rfl rfl id h)

theorem dropRx (p : RxFrame → Bool) (h : P s) : P (s.dropRx p) := K.link s _ h

theorem send (k n : Byte) (body : List Byte) (h : P s) : P (s.send k n body) :=
  K.link { s with txLane := (s.send k n body).txLane } (s.send k n body).link (K.lane s _ h)

theorem takeNew (f : OutFrame) (h : P s) : P (s.takeNew f) := K.send _ _ _ (K.setLink _ h)

/-! ### the end of an event -/

theorem listEmptyTest (h : P s) : P s.listEmptyTest := by
  have commit : P (if s.mgmt.commit.state = .listWait then
      ({ s with mgmt := { s.mgmt with commit := { s.mgmt.commit with state := .haltWait } } } : State).requestCommitHalt
      else s) := by
    split
    next waits => exact K.commitHalt _ (K.mgmt s _ rfl rfl (by simp [waits]) h)
    next => exact h
  have drain (s : State) (h : P s) : P (if s.mgmt.part.state = .draining ∧ s.mgmt.part.stage = some .list then
      (s.setPart { s.mgmt.part with stage := some .halt }).requestDrainHalt else s) := by
    split
    · exact K.drainHalt _ (K.setPart _ h)
    · exact h
  unfold State.listEmptyTest
  split
  · exact drain _ commit
  · exact h

theorem advance (h : P s) : P s.advance := by
  have halted (s : State) (h : P s) : P s.haltedTest := by
    unfold State.haltedTest
    split
    next c => exact K.halted s c.1 c.2 h
    next => exact h
  have commit (s : State) (h : P s) : P s.commitTest := by
    unfold State.commitTest
    split
    next c => exact K.commitPoint s (.inl (by simp [c.2])) h
    next => exact h
  have request (s : State) (h : P s) : P s.holdRequestTest := by
    unfold State.holdRequestTest
    split
    · exact K.setPart _ (K.holdReq s true h)
    · exact h
  have hold (s : State) (h : P s) : P s.holdTest := by
    unfold State.holdTest
    split
    next c => exact K.hold s c.1 h
    next => exact h
  exact hold _ (request _ (commit _ (halted _ (K.listEmptyTest h))))

theorem gate (n : Nat) (h : P s) : P (gate n s) := by
  induction n generalizing s with
  | zero => exact h
  | succ n ih =>
    unfold Machine.gate
    split
    next c hc => exact ih (K.issue s c hc h)
    next => exact h

theorem settle (h : P s) : P s.settle := K.gate 16 (K.idle _ _ (K.advance h))

theorem byLink : KeptByLink P :=
  ⟨K.link, K.clock, fun _ i h => K.count i h, fun _ r h => K.report r h, fun _ h => K.settle h, K.lose, K.restart⟩

/-! ### the transmit arbiter -/

theorem selects {t : State} (x : Selects s t) (h : P s) : P t := by
  cases x
  case answer | offer | replay | resend => exact K.send _ _ _ (K.setLink _ h)
  case ack => exact K.send _ _ _ h
  case busy | reply | notice => exact K.takeNew _ (K.mgmt s _ rfl rfl id h)
  case replyHold => exact K.takeNew _ (K.setLink _ (K.replyHold s _ h))
  case cancelHold => exact K.takeNew _ (K.setLink _ (K.cancelHold s _ h))
  case final hp hf => exact K.settle (K.takeNew _ (K.setLink _ (K.release s _ _ _ hp hf h)))

/-! ### requests -/

theorem takeRequest (k : ReqKind) (body : List Byte) (h : P s) : P (s.takeRequest k body) := by
  unfold State.takeRequest
  split
  · exact K.echoed _ _ (K.replyHold s _ h)
  next q w hc => exact K.settle (K.admits s k body q w hc h)

theorem takeCancel (body : List Byte) (h : P s) : P (s.takeCancel body) := by
  have answer (res : CancelResult) : P (s.cancelReply body res) := K.echoed _ _ (K.cancelHold s _ h)
  unfold State.takeCancel
  split
  · split
    · split
      next e he =>
        have found := List.find?_some he
        simp only [Bool.and_eq_true, decide_eq_true_eq] at found
        split
        next waiting => exact K.settle (K.cancel s e (List.mem_of_find?_eq_some he) found.2 waiting h)
        next => exact answer _
      next => exact answer _
    · exact answer _
  · exact answer _

theorem acceptCommit (e : Echo) (valid : validate s.mgmt.staged = none) (h : P s) : P (s.acceptCommit e) := by
  unfold State.acceptCommit
  dsimp only
  split
  · exact K.commitPoint _ (.inr valid) (K.setCommit s _ valid h)
  · split
    · exact K.commitHalt _ (K.setCommit s _ valid h)
    · exact K.setCommit s _ valid h

theorem doCommit (body : List Byte) (e : Echo) (h : P s) : P (s.doCommit body e) := by
  unfold State.doCommit
  split
  · exact K.reply _ _ _ h
  · split
    · exact K.mgmt s _ rfl rfl id h
    next valid => exact K.settle (K.acceptCommit e valid h)

theorem doLeaveRetain (body : List Byte) (e : Echo) (h : P s) : P (s.doLeaveRetain body e) := by
  have abandon (s : State) (owed : Option Echo) (h : P s) : P (s.abandonReply owed) := by
    unfold State.abandonReply
    split
    · exact K.reply _ _ _ h
    · exact h
  unfold State.doLeaveRetain
  split
  · exact K.settle (K.reply _ _ _ (K.setPart _ (K.wake _ (K.withdrawDrainHalt s h))))
  · exact K.settle (K.reply _ _ _ (abandon _ _ (K.withdrawDrainHalt _ (K.holdReq _ false (K.setPart _ h)))))
  all_goals exact K.reply _ _ _ h

/-- Executing a request that has passed the tests of R154. -/
theorem run (row : Row) (body : List Byte) (e : Echo) (op : rowOf body = row) (passes : s.requestTests body = none)
    (h : P s) : P (row.run s body e) := by
  cases row
  case get =>
    simp only [Row.run, State.doGet]
    split <;> exact K.reply _ _ _ h
  case set =>
    simp only [Row.run, State.doSet]
    have idle : s.mgmt.commit.state = .none := by
      have op : mopOf body = .set := by
        cases hop : mopOf body
        case set => rfl
        case action =>
          simp only [rowOf, hop] at op
          split at op <;> cases op
        all_goals simp [rowOf, hop] at op
      by_contra busy
      by_cases form : formGood body = true
      · by_cases manager : s.actsAsManager (fieldAt body 0 1) = true
        · exact absurd ((State.requestTests_busy form manager (.inl op) busy).symm.trans passes) (by simp)
        · simp [State.requestTests, form, op, manager] at passes
      · simp [State.requestTests, form] at passes
    split
    · exact K.reply _ _ _ (K.setStaged s _ _ idle h)
    · exact K.reply _ _ _ h
  case setNotice => exact K.mgmt s _ rfl rfl id h
  case commit => exact K.doCommit body e h
  case discard => exact K.mgmt { s with mgmt := { s.mgmt with staged := s.mgmt.active } } _ rfl rfl id (K.discard s h)
  case enterRetain =>
    simp only [Row.run, State.doEnterRetain]
    split
    · exact K.settle (K.setPart _ h)
    all_goals exact K.reply _ _ _ h
  case leaveRetain => exact K.doLeaveRetain body e h
  case resetPart =>
    simp only [Row.run, State.doResetPart]
    split
    · exact K.setLink _ (K.mgmt s _ rfl rfl id h)
    · exact K.restart s h
  case lapseClear => exact K.reply _ _ _ (K.lapses s _ h)
  case clear => exact K.mgmt s _ rfl rfl id h
  case unknown => exact K.reply _ _ _ h

/-! ### the effects -/

theorem pinEffect {c : Instr} {t : State} (x : PinEffect s c t) (assert : s.rst = none → P s.beginReset)
    (release : ∀ kind, s.rst = some kind → P (s.endReset kind)) (h : P s) : P t := by
  cases x
  case assert running => exact assert running
  case release kind reset => exact release kind reset
  case present | lost => exact K.pin s _ h
  case trains | down => exact K.setLink _ (K.pin s _ h)
  case recovers => exact K.byLink.enterRecovery _ (K.pin s _ h)

/-- Every effect keeps `P`; an access completion, where storing the chunks and the entry's leaving do. -/
theorem effect {c : Instr} {t : State} (x : Effect s c t)
    (completes : (∀ b ups, c ≠ .accessCompletion b ups) ∨
      ∀ s b e olds ups, s.issuedOn b = some e → P s → P ((s.accessEffect e olds ups).completeEntry b e))
    (h : P s) : P t := by
  cases x
  case badCheck => exact K.count _ h
  case badCheckUp => exact K.byLink.askReplay (K.count _ h)
  case ackRange => exact K.byLink.enterRecovery _ h
  case ackCredit => exact K.byLink.takeAckCredit _ h
  case sequenced => exact K.byLink.takeSequenced _ (K.byLink.takeAckCredit _ h)
  case hostReplay => exact K.byLink.hostReplay _ (K.byLink.takeAckCredit _ h)
  case hostTrain => exact K.byLink.hostTrain _ h
  case ackTimer => exact K.byLink.ackExpires (K.reach _ h)
  case markTimer | offerTimer | stateTimer => exact K.setLink _ (K.reach _ h)
  case holdTimer => exact K.byLink.holdExpires (K.reach _ h)
  case transmit x => exact K.byLink.resetIfTaken (K.selects x h)
  case admission => exact K.takeRequest _ _ (K.dropRx _ h)
  case cancel => exact K.takeCancel _ (K.dropRx _ h)
  case manage => exact K.dropRx _ (K.mgmt s _ rfl rfl id h)
  case manageBusy => exact K.dropRx _ (K.echoed _ _ (K.mgmt s _ rfl rfl id h))
  case fails => exact K.reply _ _ _ (K.takenFor _ _ h)
  case runs body rest _ _ _ op passes =>
    have passes : (s.takenFor body rest).requestTests body = none := by
      have same : (s.takenFor body rest).requestTests body = s.requestTests body := by
        simp [State.requestTests, State.actsAsManager, State.takenFor, State.taken]
      exact same.trans passes
    exact K.run _ _ _ op passes (K.takenFor _ _ h)
  case tInit d _ mode => exact K.settle (K.tInit (s.reach d) mode (K.reach d h))
  case tExit d _ mode => exact K.settle (K.tExit (s.reach d) mode (K.reach d h))
  case tOa b d _ state => exact K.settle (K.tOa (s.reach d) b state (K.reach d h))
  case tDwell b d _ => exact K.settle (K.tDwell (s.reach d) b (K.reach d h))
  case tWrec b d _ => exact K.settle (K.tWrec (s.reach d) b (K.reach d h))
  case tClose b d _ state => exact K.settle (K.tClose (s.reach d) b state (K.reach d h))
  case tRen b d _ state => exact K.settle (K.tRen (s.reach d) b state (K.reach d h))
  case idleClose b d _ => exact K.settle (K.idle (s.reach d) _ (K.reach d h))
  case interval => exact K.settle (K.reach _ h)
  case completesNone b ups d kind state => exact K.settle (K.completeBank (s.reach d) b kind state (K.reach d h))
  case tick t ticks => exact K.settle (K.tick (s.reach t.at_) t ticks (K.reach _ h))
  case completes b ups d kind e state issued =>
    rcases completes with other | completes
    · exact absurd rfl (other b ups)
    · refine K.settle (completes _ b e _ ups ?_ (K.completeBank (s.reach d) b kind state (K.reach d h)))
      simpa [State.completeBank, State.issuedOn] using issued

end Kept

/-- What the clock, the queue of waiting commands and every command keep, every step keeps. -/
theorem step_keeps {P : State → Prop} (clock : ∀ s n, P s → P { s with now := n })
    (pending : ∀ s l, P s → P { s with pending := l }) (command : ∀ c s t, P s → exec c s = .next t → P t) :
    ∀ s t, P s → step s = .next t → P t := by
  intro s t hs h
  rcases step_cases h with rfl | ⟨c, rest, h⟩
  · exact clock s _ hs
  · exact command c _ t (pending s rest hs) h

end Sys2Proof.Machine
end

section
/-! PROOFS. What the larger operations leave unchanged: the withdrawal of a halt, the wake, a commit point, the hold, an
admission, a session loss, an access completion, a tick and the end of a reset. -/

namespace Sys2Proof.Machine

/-! ### modes, commit point and hold -/

theorem State.afterWithdrawal_frame (s : State) :
    s.afterWithdrawal = { s with port := { s.port with mode := s.afterWithdrawal.port.mode }
                                 mgmt := { s.mgmt with part := s.afterWithdrawal.mgmt.part } } := by
  unfold State.afterWithdrawal
  split <;> rfl

/-- Withdrawing the commit halt changes the request, the mode and the part state, and nothing else. -/
theorem State.withdrawCommitHalt_frame (s : State) :
    s.withdrawCommitHalt =
      { s with port := { s.port with commitHalt := false, mode := s.withdrawCommitHalt.port.mode }
               mgmt := { s.mgmt with part := s.withdrawCommitHalt.mgmt.part } } := by
  unfold State.withdrawCommitHalt
  split
  · rw [State.afterWithdrawal_frame]
  next stands =>
    have off : s.port.commitHalt = false := by simpa using stands
    rw [← off]

/-- Withdrawing the drain halt changes the request, the mode and the part state, and nothing else. -/
theorem State.withdrawDrainHalt_frame (s : State) :
    s.withdrawDrainHalt =
      { s with port := { s.port with drainHalt := false, mode := s.withdrawDrainHalt.port.mode }
               mgmt := { s.mgmt with part := s.withdrawDrainHalt.mgmt.part } } := by
  unfold State.withdrawDrainHalt
  split
  · rw [State.afterWithdrawal_frame]
  next stands =>
    have off : s.port.drainHalt = false := by simpa using stands
    rw [← off]

theorem State.commitReply_frame (s : State) (r : Option ReplyOwed) :
    s.commitReply r = { s with mgmt := { s.mgmt with replies := (s.commitReply r).mgmt.replies } } := by
  unfold State.commitReply
  split <;> rfl

/-- R164: what a commit point changes. -/
theorem State.commitPoint_frame (s : State) :
    s.commitPoint =
      { s.applyCommit with
        port := { s.port with commitHalt := false, mode := s.commitPoint.port.mode }
        mgmt := { s.mgmt.atCommit with part := s.commitPoint.mgmt.part, replies := s.commitPoint.mgmt.replies } } := by
  simp only [State.commitPoint]
  rw [State.commitReply_frame, State.withdrawCommitHalt_frame]
  rfl

theorem State.enterRetained_frame (s : State) :
    s.enterRetained =
      { s with mgmt :=
        { s.mgmt with
          replies := s.enterRetained.mgmt.replies
          part := { s.mgmt.part with state := .retained, stage := none, retainOwed := none } } } := by
  unfold State.enterRetained
  dsimp only
  split <;> rfl

/-- R22, R177: what the hold changes. -/
theorem State.issueHold_frame (s : State) :
    s.issueHold =
      { s with
        array := s.array.decayWhere s.exemptBank
        port := { s.port with banks := Table.fill 16 (Bank.idle .held), mode := .held, holdReq := false }
        ren := { s.ren with tick := none }
        mgmt :=
          { s.mgmt with
            replies := s.issueHold.mgmt.replies
            part := { s.mgmt.part with state := .retained, stage := none, retainOwed := none } } } := by
  simp only [State.issueHold]
  rw [State.enterRetained_frame]
  rfl

/-- R23: what the wake changes. -/
theorem State.wake_frame (s : State) :
    s.wake = { s with port := { s.port with mode := s.wake.port.mode, tExit := s.wake.port.tExit }
                      ren := { s.ren with records := s.wake.ren.records } } := by
  unfold State.wake
  split <;> rfl

theorem State.leaveIdleMode_frame (s : State) :
    s.leaveIdleMode =
      { s with port := { s.port with mode := s.leaveIdleMode.port.mode }
               ren := { s.ren with tick := s.leaveIdleMode.ren.tick }
               mgmt := { s.mgmt with part := s.leaveIdleMode.mgmt.part } } := by
  unfold State.leaveIdleMode
  dsimp only
  split <;> rfl

/-! ### admission, cancel and release -/

theorem State.fillSlot_frame (s : State) (q : DataReq) (e : Entry) :
    s.fillSlot q e = { s with adm := { s.adm with slots := (s.fillSlot q e).adm.slots } } := by
  unfold State.fillSlot
  split <;> rfl

/-- R58 to R61: an admission changes the admission unit, the scheduler and an order list. -/
theorem State.admitRequest_frame (s : State) (k : ReqKind) (q : DataReq) (w : Window) :
    s.admitRequest k q w =
      { s with
        adm := (s.admitRequest k q w).adm
        sched :=
          { s.sched with
            list := s.sched.list ++ [s.newEntry k q w]
            idle := s.sched.idle.set (s.newEntry k q w).bank .stopped
            nextId := s.sched.nextId + 1 }
        resp := { s.resp with orders := (s.admitRequest k q w).resp.orders } } := by
  unfold State.admitRequest
  dsimp only
  rw [State.fillSlot_frame]
  split <;> rfl

theorem State.freeWriteSlot_frame (s : State) (e : Entry) :
    s.freeWriteSlot e = { s with adm := { s.adm with slots := (s.freeWriteSlot e).adm.slots } } := by
  unfold State.freeWriteSlot
  split <;> rfl

theorem State.releasePlace_frame (s : State) (r : ReqNo) (p : Place) :
    s.releasePlace r p = { s with adm := { s.adm with tags := (s.releasePlace r p).adm.tags }
                                  resp := (s.releasePlace r p).resp } := by
  unfold State.releasePlace
  dsimp only
  split <;> rfl

/-! ### reports and session loss -/

/-- R183 to R188: a report changes the counters and the notice queue. -/
theorem State.report_frame (s : State) (r : Report) :
    s.report r =
      { s with mgmt :=
        { s.mgmt with
          counters := (s.report r).mgmt.counters, notices := (s.report r).mgmt.notices
          nextNotice := (s.report r).mgmt.nextNotice, dropped := (s.report r).mgmt.dropped } } := by
  unfold State.report State.offerNotice
  split
  · split <;> rfl
  · rfl

@[simp] theorem State.loseSession_pending (s : State) : s.loseSession.pending = s.pending := by simp [State.loseSession]
@[simp] theorem State.loseSession_rst (s : State) : s.loseSession.rst = s.rst := by simp [State.loseSession]
@[simp] theorem State.loseSession_now (s : State) : s.loseSession.now = s.now := by simp [State.loseSession]
@[simp] theorem State.loseSession_port (s : State) : s.loseSession.port = s.port := by simp [State.loseSession]
@[simp] theorem State.loseSession_array (s : State) : s.loseSession.array = s.array := by simp [State.loseSession]
@[simp] theorem State.loseSession_ren (s : State) : s.loseSession.ren = s.ren := by simp [State.loseSession]
@[simp] theorem State.loseSession_link (s : State) : s.loseSession.link = s.link.loseSession := by
  simp [State.loseSession]

/-! ### completions and ticks -/

theorem State.orFree_frame (s : State) (o : Option Chunk) :
    (s.orFree o).2 = { s with draws := (s.orFree o).2.draws } := by cases o <;> rfl

theorem State.disturbChunk_frame (s : State) (e : Entry) (k : Nat) (ups : List Upset) :
    s.disturbChunk e k ups = { s with array := (s.disturbChunk e k ups).array } := by
  unfold State.disturbChunk
  split
  · split <;> rfl
  · rfl

/-- A chunk that is read changes the array by its disturbances, the count of free values, and what reports change. -/
theorem State.readChunk_frame (s : State) (e : Entry) (ups : List Upset) (k : Nat) :
    (s.readChunk e ups k).2 =
      { s with draws := (s.readChunk e ups k).2.draws, array := (s.readChunk e ups k).2.array
               mgmt := { s.mgmt with
                counters := (s.readChunk e ups k).2.mgmt.counters, notices := (s.readChunk e ups k).2.mgmt.notices
                nextNotice := (s.readChunk e ups k).2.mgmt.nextNotice
                dropped := (s.readChunk e ups k).2.mgmt.dropped } } := by
  unfold State.readChunk
  dsimp only
  split <;> (try rw [State.report_frame]) <;> rw [State.orFree_frame, State.disturbChunk_frame]

theorem State.readChunks_frame (s : State) (e : Entry) (ups : List Upset) (ks : List Nat) :
    (s.readChunks e ups ks).2 =
      { s with draws := (s.readChunks e ups ks).2.draws, array := (s.readChunks e ups ks).2.array
               mgmt := { s.mgmt with
                counters := (s.readChunks e ups ks).2.mgmt.counters, notices := (s.readChunks e ups ks).2.mgmt.notices
                nextNotice := (s.readChunks e ups ks).2.mgmt.nextNotice
                dropped := (s.readChunks e ups ks).2.mgmt.dropped } } := by
  induction ks generalizing s with
  | nil => rfl
  | cons k ks ih =>
    unfold State.readChunks
    dsimp only
    rw [ih, State.readChunk_frame]

theorem State.mergeReport_frame (s : State) (e : Entry) (k : Nat) (old : Chunk) :
    s.mergeReport e k old =
      { s with mgmt :=
        { s.mgmt with
          counters := (s.mergeReport e k old).mgmt.counters, notices := (s.mergeReport e k old).mgmt.notices
          nextNotice := (s.mergeReport e k old).mgmt.nextNotice
          dropped := (s.mergeReport e k old).mgmt.dropped } } := by
  unfold State.mergeReport
  split
  · rfl
  all_goals rw [State.report_frame]

/-- A chunk that is written changes the array, the count of free values, and what reports change. -/
theorem State.writeChunk_frame (s : State) (e : Entry) (w : WriteSlot) (olds : List (Option Chunk)) (ups : List Upset)
    (k : Nat) :
    s.writeChunk e w olds ups k =
      { s with draws := (s.writeChunk e w olds ups k).draws, array := (s.writeChunk e w olds ups k).array
               mgmt := { s.mgmt with
                counters := (s.writeChunk e w olds ups k).mgmt.counters
                notices := (s.writeChunk e w olds ups k).mgmt.notices
                nextNotice := (s.writeChunk e w olds ups k).mgmt.nextNotice
                dropped := (s.writeChunk e w olds ups k).mgmt.dropped } } := by
  unfold State.writeChunk
  dsimp only
  split
  · rfl
  · split
    · rw [State.mergeReport_frame, State.orFree_frame]
      rfl
    · rfl

theorem State.writeChunks_frame (s : State) (e : Entry) (w : WriteSlot) (olds : List (Option Chunk)) (ups : List Upset)
    (ks : List Nat) :
    s.writeChunks e w olds ups ks =
      { s with draws := (s.writeChunks e w olds ups ks).draws, array := (s.writeChunks e w olds ups ks).array
               mgmt := { s.mgmt with
                counters := (s.writeChunks e w olds ups ks).mgmt.counters
                notices := (s.writeChunks e w olds ups ks).mgmt.notices
                nextNotice := (s.writeChunks e w olds ups ks).mgmt.nextNotice
                dropped := (s.writeChunks e w olds ups ks).mgmt.dropped } } := by
  induction ks generalizing s with
  | nil => rfl
  | cons k ks ih =>
    unfold State.writeChunks
    rw [ih, State.writeChunk_frame]

theorem State.readDone_frame (s : State) (e : Entry) (xs : List (List Byte × CheckResult)) :
    s.readDone e xs = { s with resp := (s.readDone e xs).resp } := by
  unfold State.readDone
  split
  · split <;> rfl
  · rfl

theorem State.writeDone_frame (s : State) (e : Entry) (st : DoneStatus) :
    s.writeDone e st = { s with resp := { s.resp with orders := (s.writeDone e st).resp.orders } } := by
  unfold State.writeDone
  split <;> rfl

/-- R7: at a completion the array and the response unit change, the count of free values, and what reports change. -/
theorem State.accessEffect_frame (s : State) (e : Entry) (olds : List (Option Chunk)) (ups : List Upset) :
    s.accessEffect e olds ups =
      { s with
        draws := (s.accessEffect e olds ups).draws
        array := (s.accessEffect e olds ups).array
        resp := (s.accessEffect e olds ups).resp
        mgmt := { s.mgmt with
          counters := (s.accessEffect e olds ups).mgmt.counters
          notices := (s.accessEffect e olds ups).mgmt.notices
          nextNotice := (s.accessEffect e olds ups).mgmt.nextNotice
          dropped := (s.accessEffect e olds ups).mgmt.dropped } } := by
  unfold State.accessEffect
  split
  · dsimp only
    rw [State.readDone_frame, State.readChunks_frame]
  · split
    · dsimp only
      rw [State.writeDone_frame, State.writeChunks_frame]
    · rfl

theorem State.foldl_overrun_frame (s : State) (bs : List BankNo) :
    bs.foldl State.overrun s =
      { s with
        array := (bs.foldl State.overrun s).array
        mgmt := { s.mgmt with
          counters := (bs.foldl State.overrun s).mgmt.counters, notices := (bs.foldl State.overrun s).mgmt.notices
          nextNotice := (bs.foldl State.overrun s).mgmt.nextNotice
          dropped := (bs.foldl State.overrun s).mgmt.dropped } } := by
  induction bs generalizing s with
  | nil => rfl
  | cons b bs ih =>
    rw [List.foldl_cons, ih, State.overrun, State.report_frame]

/-- R98: what a tick changes beside the timer. -/
theorem State.tickRecords_frame (s : State) :
    s.tickRecords =
      { s with
        array := s.overruns.array
        ren := { s.ren with records := s.ren.records.mapIdx fun _ r => r.ticked }
        mgmt := { s.mgmt with
          counters := s.overruns.mgmt.counters, notices := s.overruns.mgmt.notices
          nextNotice := s.overruns.mgmt.nextNotice, dropped := s.overruns.mgmt.dropped } } := by
  unfold State.tickRecords
  dsimp only
  unfold State.overruns
  rw [State.foldl_overrun_frame]

/-! ### the end of a reset -/

theorem State.startPort_frame (s : State) (kind : StartKind) :
    s.startPort kind = { s with port := (s.startPort kind).port, ren := (s.startPort kind).ren } := by
  cases kind
  · rfl
  · simp only [State.startPort]
    rw [State.wake_frame]

/-- R172: what the end of a reset changes. -/
theorem State.endReset_frame (s : State) (kind : StartKind) :
    s.endReset kind =
      { s with
        rst := none
        link := (s.endReset kind).link
        port := (({ s with rst := none } : State).startPort kind).port
        ren := (({ s with rst := none } : State).startPort kind).ren
        mgmt := { s.mgmt with
          part := { state := .starting, stage := none, retainOwed := none, lastStart := kind }
          counters := (s.endReset kind).mgmt.counters, notices := (s.endReset kind).mgmt.notices
          nextNotice := (s.endReset kind).mgmt.nextNotice, dropped := (s.endReset kind).mgmt.dropped } } := by
  have enter (t : State) : (if t.laneSignal then t.enterTraining else t) =
      { t with link := (if t.laneSignal then t.enterTraining else t).link } := by split <;> rfl
  unfold State.endReset
  dsimp only
  rw [enter, State.report_frame, State.startPort_frame]
  rfl

end Sys2Proof.Machine
end

section
/-! PROOFS. Every command answers a next state (R183), a step runs the front command, the queue of waiting commands is
kept, and only an access completion stores chunks (R1, R7, R25). -/

namespace Sys2Proof.Machine

/-! ### every command answers -/

/-- R183: no command ends in a fault or a refusal. -/
theorem exec_answers (c : Instr) (s : State) : ∃ t, exec c s = .next t := by
  cases c
  case resetNRelease =>
    dsimp only [exec, execResetNRelease]
    split <;> exact ⟨_, rfl⟩
  all_goals exact ⟨_, rfl⟩

@[simp] theorem State.endReset_pending (s : State) (kind : StartKind) : (s.endReset kind).pending = s.pending := by
  rw [State.endReset_frame]

/-- Every operation of the model keeps the queue of waiting commands. -/
theorem kept_pending (l : List Instr) : Kept fun s => s.pending = l where
  link _ _ h := h
  lane _ _ h := h
  pin _ _ h := h
  clock _ _ h := h
  draws _ _ h := h
  replyHold _ _ h := h
  cancelHold _ _ h := h
  idle _ _ h := h
  mgmt _ _ _ _ _ h := h
  setStaged _ _ _ _ h := h
  discard _ h := h
  setCommit _ _ _ h := h
  commitHalt _ h := h
  drainHalt _ h := h
  withdrawDrainHalt s h := by rw [State.withdrawDrainHalt_frame]; exact h
  commitPoint s _ h := by rw [State.commitPoint_pending]; exact h
  halted _ _ _ h := h
  holdReq _ _ h := h
  hold s _ h := by rw [State.issueHold_frame]; exact h
  wake s h := by rw [State.wake_frame]; exact h
  issue s c _ h := by rw [State.issue_frame]; exact h
  lose s h := by rw [State.loseSession_pending]; exact h
  restart s h := by rw [State.resetPart, State.endReset_pending]; exact h
  admits s k _ q w _ h := by rw [State.admitRequest_frame]; exact h
  cancel s e _ _ _ h := by simpa using h
  release s r p _ _ _ h := by rw [State.releasePlace_frame]; exact h
  tInit s _ h := by rw [State.leaveIdleMode_frame]; exact h
  tExit s _ h := by rw [State.leaveIdleMode_frame]; exact h
  tOa _ _ _ h := h
  tDwell _ _ h := h
  tWrec _ _ h := h
  tClose _ _ _ h := h
  tRen _ _ _ h := h
  completeBank _ _ _ _ h := h
  tick s t _ h := by
    rw [State.tickRecords_frame]
    exact h
  lapses _ _ h := h

theorem exec_pending {c : Instr} {s t : State} (h : exec c s = .next t) : t.pending = s.pending := by
  have K := kept_pending s.pending
  rcases exec_cases h with rfl | x | ⟨-, x⟩
  · rfl
  · exact K.pinEffect x (fun _ => rfl) (fun kind _ => State.endReset_pending s kind) rfl
  · refine K.effect x (.inr fun s b e olds ups _ h => ?_) rfl
    rw [State.accessEffect_frame]
    simpa [State.completeEntry] using h

/-! ### what waits, and the well-formed frames (log 1) -/

theorem exec_admission_waits {k : ReqKind} {s : State} (h : s.adm.replyHold ≠ none) : exec k.command s = .next s := by
  have stays : s.admission k = s := by
    unfold State.admission
    split
    · rw [if_neg fun c => h c.2]
    · rfl
  simp [exec_admission, State.event, stays]

theorem exec_cancel_waits {s : State} (h : s.sched.cancelHold ≠ none) : exec .cancel s = .next s := by
  cases e : s.link.rx.find? RxFrame.isCancel <;> simp [exec, execCancel, State.event, e, h]

theorem exec_row_waits {row : Row} {s : State}
    (h : s.mgmt.queue = [] ∨ s.mgmt.replies ≠ [] ∨ s.mgmt.resetTaken = true) : exec row.command s = .next s := by
  simp [exec_row, State.event, State.takeRow_waits h]

theorem goodFrame_iff {p : Byte → Bool} {q : Byte → Prop} (spelled : ∀ k, p k = true ↔ q k) {bytes : List Byte} :
    goodFrame p bytes = true ↔ ∃ f, parseFrame bytes = some f ∧ q f.kind := by
  unfold goodFrame
  cases parseFrame bytes <;> simp [spelled]

theorem not_isControl_iff (k : Byte) : (!isControl k) = true ↔ k ≠ 0x70 ∧ k ≠ 0x71 ∧ k ≠ 0x72 := by
  have spelled : isControl k = true ↔ (k = 0x70 ∨ k = 0x71) ∨ k = 0x72 := by
    unfold isControl
    rw [Bool.or_eq_true, Bool.or_eq_true, decide_eq_true_iff, decide_eq_true_iff, decide_eq_true_iff]
    rfl
  rw [Bool.not_eq_true', ← Bool.not_eq_true, spelled, not_or, not_or, and_assoc]

/-- A frame command that carries no frame of its kind changes nothing. -/
theorem exec_of_not_wellFormed {c : Instr} {s : State} (ill : c.wellFormed = false)
    (other : ∀ b ups, c ≠ .accessCompletion b ups) : exec c s = .next s := by
  cases c
  case accessCompletion b ups => exact absurd rfl (other b ups)
  case badCheckFrame bytes =>
    have good : (parseFrame bytes).isNone = false := ill
    simp [exec, execBadCheckFrame, State.event, good]
  case inboundSequencedFrame bytes | hostAck bytes | hostReplay bytes | hostTrain bytes =>
    simp only [Instr.wellFormed, goodFrame] at ill
    simp only [exec, execInboundSequencedFrame, execHostAck, execHostReplay, execHostTrain, State.event]
    cases frame : parseFrame bytes with
    | none => simp only [ite_self]
    | some f =>
      simp only [frame] at ill
      simp_all only [Bool.not_eq_false', decide_eq_false_iff_not, Bool.true_eq_false, false_and, if_false, ite_self]
  all_goals cases ill

/-- Settles O2: a next state for every command, the queue kept by every effect, the units that wait, and the frames that
the frame commands carry. -/
theorem everyCommandAnswers : Obligations.EveryCommandAnswers := by
  refine ⟨fun c s => ?_, fun _ _ => exec_admission_waits, fun _ => exec_cancel_waits, fun _ _ => exec_row_waits,
    fun bytes => ⟨?_, ?_, ?_, ?_, ?_⟩, fun c s => exec_of_not_wellFormed⟩
  · obtain ⟨t, ht⟩ := exec_answers c s
    exact ⟨t, ht, exec_pending ht⟩
  · exact Option.isNone_iff_eq_none
  · exact goodFrame_iff not_isControl_iff
  · exact goodFrame_iff (q := (· = kindAck)) fun _ => decide_eq_true_iff
  · exact goodFrame_iff (q := (· = kindReplay)) fun _ => decide_eq_true_iff
  · exact goodFrame_iff (q := (· = kindTrain)) fun _ => decide_eq_true_iff

/-- Settles O1: both clauses are the two branches of `step`. -/
theorem stepRunsFrontCommand : Obligations.StepRunsFrontCommand := by
  refine ⟨fun _ _ => rfl, fun s empty => ?_⟩
  simp only [step, empty]

/-! ### chunks that stay -/

/-- Every chunk of the first store stands in the second. -/
def Store.Within (m n : Store) : Prop := ∀ k chunk, m.find k = some chunk → n.find k = some chunk

theorem Store.within_filter {m n : Store} (h : m.Within n) (q : Nat → Bool) :
    Store.Within (m.filter fun kc => q kc.1) n := by
  intro k chunk hk
  rw [Store.find_filter] at hk
  split at hk
  · exact h k chunk hk
  · cases hk

theorem Store.within_decayWhere {m n : Store} (h : m.Within n) (lost : BankNo → Bool) :
    (m.decayWhere lost).Within n :=
  Store.within_filter h fun k => !(List.finRange 16).any fun b => bankOfKey k = b.val && lost b

theorem Store.within_nil (n : Store) : Store.Within [] n := fun _ _ h => by cases h

theorem State.arrayAtReset_within {s : State} {n : Store} (h : s.array.Within n) (kind : StartKind) :
    (s.arrayAtReset kind).Within n := by
  cases kind
  · exact Store.within_nil n
  · exact h

@[simp] theorem State.endReset_array (s : State) (kind : StartKind) : (s.endReset kind).array = s.array := by
  rw [State.endReset_frame]

/-- R98: a tick takes the chunks of the banks that overrun. -/
theorem State.overruns_within {s : State} {n : Store} (h : s.array.Within n) : s.overruns.array.Within n := by
  have fold : ∀ (bs : List BankNo) (s : State), s.array.Within n → (bs.foldl State.overrun s).array.Within n := by
    intro bs
    induction bs with
    | nil => exact fun _ h => h
    | cons b bs ih =>
      refine fun s h => ih _ ?_
      rw [State.overrun, State.report_array]
      exact Store.within_filter h fun k => bankOfKey k ≠ b.val
  exact fold _ s h

/-- No operation but those of an access completion adds or changes a stored chunk. -/
theorem kept_array (n : Store) : Kept fun s => s.array.Within n where
  link _ _ h := h
  lane _ _ h := h
  pin _ _ h := h
  clock _ _ h := h
  draws _ _ h := h
  replyHold _ _ h := h
  cancelHold _ _ h := h
  idle _ _ h := h
  mgmt _ _ _ _ _ h := h
  setStaged _ _ _ _ h := h
  discard _ h := h
  setCommit _ _ _ h := h
  commitHalt _ h := h
  drainHalt _ h := h
  withdrawDrainHalt s h := by rw [State.withdrawDrainHalt_frame]; exact h
  commitPoint s _ h := by
    rw [State.commitPoint_frame]
    show s.arrayAtCommit.Within n
    unfold State.arrayAtCommit
    split
    · exact h
    · exact Store.within_decayWhere h _
  halted _ _ _ h := h
  holdReq _ _ h := h
  hold s _ h := by rw [State.issueHold_frame]; exact Store.within_decayWhere h _
  wake s h := by rw [State.wake_frame]; exact h
  issue s c _ h := by rw [State.issue_frame]; exact h
  lose s h := by rw [State.loseSession_array]; exact h
  restart s h := by
    rw [State.resetPart, State.endReset_array]
    exact State.arrayAtReset_within h _
  admits s k _ q w _ h := by rw [State.admitRequest_frame]; exact h
  cancel s e _ _ _ h := by simpa using h
  release s r p _ _ _ h := by rw [State.releasePlace_frame]; exact h
  tInit s _ h := by rw [State.leaveIdleMode_frame]; exact h
  tExit s _ h := by rw [State.leaveIdleMode_frame]; exact h
  tOa _ _ _ h := h
  tDwell _ _ h := h
  tWrec _ _ h := h
  tClose _ _ _ h := h
  tRen _ _ _ h := h
  completeBank _ _ _ _ h := h
  tick s t _ h := by
    rw [State.tickRecords_frame]
    exact State.overruns_within h
  lapses _ _ h := h

/-- Settles O60: the stored chunks stay within those of before under every operation but the completions'. -/
theorem onlyCompletionsStoreChunks : Obligations.OnlyCompletionsStoreChunks := by
  intro c s t other h
  have K := kept_array s.array
  have start : s.array.Within s.array := fun _ _ h => h
  rcases exec_cases h with rfl | x | ⟨-, x⟩
  · exact start
  · refine K.pinEffect x (fun _ => State.arrayAtReset_within start _) (fun kind _ => ?_) start
    rw [State.endReset_array]
    exact start
  · exact K.effect x (.inl other) start

end Sys2Proof.Machine
end

section
/-! PROOFS. The array port stays well kept (chapter 1): the bank records under each operation on one bank, the modes
under the halts, the hold and the wake, and with them every step. -/

namespace Sys2Proof

/-! ### counting the things of a table -/

theorem List.countP_update {ι : Type} [DecidableEq ι] {l : List ι} (nodup : l.Nodup) {i : ι} (mem : i ∈ l)
    {f g : ι → Bool} (same : ∀ j, j ≠ i → g j = f j) :
    l.countP g + (if f i then 1 else 0) = l.countP f + (if g i then 1 else 0) := by
  induction l with
  | nil => cases mem
  | cons a l ih =>
    rw [List.nodup_cons] at nodup
    rw [List.countP_cons, List.countP_cons]
    by_cases ha : a = i
    · subst ha
      have rest : l.countP g = l.countP f :=
        List.countP_congr fun j hj => by rw [same j fun e => nodup.1 (e ▸ hj)]
      omega
    · have := ih nodup.2 ((List.mem_cons.1 mem).resolve_left (Ne.symm ha))
      rw [same a ha]
      omega

/-- Replacing one thing changes the count by that thing alone. -/
theorem Table.count_set {n : Nat} {α : Type} (t : Table n α) (i : Fin n) (a : α) (p : α → Bool) :
    (t.set i a).count p + (if p (t.get i) then 1 else 0) = t.count p + (if p a then 1 else 0) := by
  have h := List.countP_update (List.nodup_finRange n) (List.mem_finRange i) (f := fun j => p (t.get j))
    (g := fun j => p ((t.set i a).get j)) fun j hj => by rw [Table.get_set_ne _ _ hj]
  rwa [Table.get_set_same] at h

theorem Table.count_set_le {n : Nat} {α : Type} {t : Table n α} {i : Fin n} {a : α} {p : α → Bool} {m : Nat}
    (bound : t.count p ≤ m) (room : p a = true → p (t.get i) = true ∨ t.count p < m) : (t.set i a).count p ≤ m := by
  have h := Table.count_set t i a p
  by_cases ha : p a = true
  · rcases room ha with old | below
    · simp only [ha, old, if_true] at h
      omega
    · simp only [ha, if_true] at h
      omega
  · simp only [ha, Bool.false_eq_true, if_false] at h
    omega

theorem Table.count_eq_zero {n : Nat} {α : Type} {t : Table n α} {p : α → Bool} :
    t.count p = 0 ↔ ∀ i, p (t.get i) = false := by
  simp [Table.count, List.countP_eq_zero]

theorem Table.count_eq_all {n : Nat} {α : Type} {t : Table n α} {p : α → Bool} :
    t.count p = n ↔ ∀ i, p (t.get i) = true := by
  have h : t.count p = (List.finRange n).length ↔ _ := List.countP_eq_length
  rw [List.length_finRange] at h
  simpa using h

end Sys2Proof

namespace Sys2Proof.Machine

/-! ### bank records -/

/-- A bank with no operation agrees with its state, CLOSED or HELD. -/
theorem Bank.ok_idle {st : BankState} (h : st = .closed ∨ st = .held) : (Bank.idle st).Ok := by
  rcases h with rfl | rfl <;> simp [Bank.Ok, Bank.idle, BankState.hasPage]

section
variable {r : Bank}

theorem Bank.Ok.open (h : r.Ok) (closed : r.state = .closed) (page oa dwell : Nat) :
    Bank.Ok { r with
      state := .opening, openPage := some page, dwellMet := false, tOa := some oa, tDwell := some dwell } := by
  simp_all [Bank.Ok, BankState.hasPage]

theorem Bank.Ok.access (h : r.Ok) (opened : r.state = .opened) (kind : AccessKind) (t : Nat)
    (olds : List (Option Chunk)) (merge : kind ≠ .merge → olds = []) :
    Bank.Ok { r with state := .accessing, access := some kind, tAccess := some t, oldChunks := olds } := by
  simp_all [Bank.Ok, BankState.hasPage]

theorem Bank.Ok.close (h : r.Ok) (opened : r.state = .opened) (dwell : r.dwellMet = true) (rec : r.recoveryMet = true)
    (t : Nat) : Bank.Ok { r with state := .closing, openPage := none, tClose := some t } := by
  simp_all [Bank.Ok, BankState.hasPage]

theorem Bank.Ok.renew (h : r.Ok) (closed : r.state = .closed) (t : Nat) :
    Bank.Ok { r with state := .renewing, tRen := some t } := by
  simp_all [Bank.Ok, BankState.hasPage]

theorem Bank.Ok.opened (h : r.Ok) (opening : r.state = .opening) :
    Bank.Ok { r with state := .opened, tOa := none } := by
  simp_all [Bank.Ok, BankState.hasPage]

theorem Bank.Ok.dwell (h : r.Ok) : Bank.Ok { r with dwellMet := true, tDwell := none } := by
  simp_all [Bank.Ok]

theorem Bank.Ok.recover (h : r.Ok) : Bank.Ok { r with recoveryMet := true, tWrec := none } := by
  simp_all [Bank.Ok]

theorem Bank.Ok.closed (h : r.Ok) (closing : r.state = .closing) :
    Bank.Ok { r with state := .closed, tClose := none } := by
  simp_all [Bank.Ok, BankState.hasPage]

theorem Bank.Ok.renewed (h : r.Ok) (renewing : r.state = .renewing) :
    Bank.Ok { r with state := .closed, tRen := none } := by
  simp_all [Bank.Ok, BankState.hasPage]

theorem Bank.Ok.readDone (h : r.Ok) (accessing : r.state = .accessing) :
    Bank.Ok { r with state := .opened, access := none, tAccess := none, oldChunks := [] } := by
  simp_all [Bank.Ok, BankState.hasPage]

theorem Bank.Ok.writeDone (h : r.Ok) (accessing : r.state = .accessing) (t : Nat) :
    Bank.Ok { r with
      state := .opened, access := none, tAccess := none, oldChunks := [], recoveryMet := false, tWrec := some t } := by
  simp_all [Bank.Ok, BankState.hasPage]

end

/-! ### one bank of the port -/

/-- A mode that allows a bank an operation allows it the states that the operation passes through. -/
theorem PortMode.allows_of_busy {m : PortMode} {st st' : BankState} (h : m.allows st = true)
    (busy : st = .opening ∨ st = .opened ∨ st = .accessing ∨ st = .closing) (next : st' ≠ .held) :
    m.allows st' = true := by
  rcases busy with rfl | rfl | rfl | rfl <;> cases m <;> simp_all [PortMode.allows]

theorem PortMode.allows_closed_of_renewing {m : PortMode} (h : m.allows .renewing = true) : m.allows .closed = true := by
  cases m <;> simp_all [PortMode.allows]

/-- A bank record that agrees with its state, in a state that the mode allows and of which there is room, may take the
place of another. -/
theorem Port.Ok.setBank {p : Port} (h : p.Ok) (b : BankNo) {r : Bank} (rec : r.Ok)
    (allowed : p.mode.allows r.state = true)
    (access : r.state = .accessing →
      (p.banks.get b).state = .accessing ∨ (p.banks.count fun x => x.state = .accessing) = 0)
    (renew : r.state = .renewing →
      (p.banks.get b).state = .renewing ∨ (p.banks.count fun x => x.state = .renewing) < 2) :
    Port.Ok { p with banks := p.banks.set b r } := by
  obtain ⟨banks, accessing, renewing, rest⟩ := h
  refine ⟨fun c => ?_, Table.count_set_le accessing ?_, Table.count_set_le renewing ?_, rest⟩
  · by_cases hc : c = b
    · subst hc
      simpa only [Table.get_set_same] using And.intro rec allowed
    · rw [Table.get_set_ne _ _ hc]
      exact banks c
  · exact fun hs => (access (of_decide_eq_true hs)).imp decide_eq_true (·.trans_lt one_pos)
  · exact fun hs => (renew (of_decide_eq_true hs)).imp_left decide_eq_true

/-! ### the port out of reset -/

/-- Out of reset the port is well kept: its own record, the tick timer and T_INIT agree with the mode. -/
structure State.PortRuns (s : State) : Prop where
  running : s.rst = none
  ok : s.port.Ok
  tick : s.ren.tick.isSome ↔ s.port.mode = .run ∨ s.port.mode = .halting ∨ s.port.mode = .halted
  tInit : s.port.tInit.isSome ↔ s.port.mode = .init

theorem State.PortRuns.portOk {s : State} (h : s.PortRuns) : s.PortOk :=
  ⟨h.ok, h.tick, fun k hk => absurd (h.running.symm.trans hk) (by simp), fun _ => h.tInit⟩

theorem State.PortOk.runs {s : State} (h : s.PortOk) (running : s.rst = none) : s.PortRuns :=
  ⟨running, h.1, h.2.1, h.2.2.2 running⟩

section
variable {s : State}

theorem State.PortRuns.bank (h : s.PortRuns) (b : BankNo) :
    (s.bank b).Ok ∧ s.port.mode.allows (s.bank b).state = true := h.ok.1 b

/-- One bank changes to a state that needs no room. -/
theorem State.PortRuns.setBank (h : s.PortRuns) (b : BankNo) {r : Bank} (rec : r.Ok)
    (allowed : s.port.mode.allows r.state = true) (quiet : r.state ≠ .accessing ∧ r.state ≠ .renewing) :
    (s.setBank b r).PortRuns :=
  ⟨h.running, h.ok.setBank b rec allowed (fun e => absurd e quiet.1) (fun e => absurd e quiet.2), h.tick, h.tInit⟩

/-- One bank changes and keeps its state. -/
theorem State.PortRuns.setBank_same (h : s.PortRuns) (b : BankNo) {r : Bank} (rec : r.Ok)
    (same : r.state = (s.bank b).state) : (s.setBank b r).PortRuns :=
  ⟨h.running, h.ok.setBank b rec (same ▸ (h.bank b).2) (fun e => .inl (same.symm.trans e))
    (fun e => .inl (same.symm.trans e)), h.tick, h.tInit⟩

/-! ### issues -/

theorem State.PortRuns.issueOpen (h : s.PortRuns) {b : BankNo} (e : Entry) (may : s.openPermitted b = true) :
    (s.issueOpen b e).PortRuns := by
  simp only [State.openPermitted, Bool.and_eq_true, decide_eq_true_eq] at may
  obtain ⟨⟨⟨mode, closed⟩, -⟩, -⟩ := may
  have banks := h.setBank b ((h.bank b).1.open closed e.page (s.now + s.timing.tOa) (s.now + s.timing.tDwell))
    (by simp [mode, PortMode.allows]) (by simp)
  obtain ⟨ok1, ok2, ok3, history, ok5⟩ := banks.ok
  refine ⟨banks.running, ⟨ok1, ok2, ok3, ?_, ok5⟩, banks.tick, banks.tInit⟩
  have history : s.port.history.length ≤ 4 := history
  show ((if s.port.history.length < 4 then s.port.history else s.port.history.tail) ++ [s.now]).length ≤ 4
  split <;> simp <;> omega

theorem State.reserveSlot_port (s : State) (e : Entry) : (s.reserveSlot e).port = s.port := by
  rw [State.reserveSlot_frame]

theorem State.reserveSlot_ren (s : State) (e : Entry) : (s.reserveSlot e).ren = s.ren := by
  rw [State.reserveSlot_frame]

theorem State.reserveSlot_rst (s : State) (e : Entry) : (s.reserveSlot e).rst = s.rst := by
  rw [State.reserveSlot_frame]

theorem State.PortRuns.issueAccess (h : s.PortRuns) {b : BankNo} {e : Entry}
    (may : s.accessPermittedButTurn b e = true) : (s.issueAccess b e).PortRuns := by
  simp only [State.accessPermittedButTurn, Bool.and_eq_true, decide_eq_true_eq] at may
  obtain ⟨⟨⟨⟨mode, opened⟩, -⟩, none⟩, -⟩ := may
  have olds : s.accessKind e ≠ .merge → s.readOld e (s.accessKind e) = [] := by
    intro notMerge
    cases k : s.accessKind e <;> simp_all [State.readOld]
  have port := h.ok.setBank b ((h.bank b).1.access opened _ (s.now + s.timing.duration (s.accessKind e)) _ olds)
    (by simp [mode, PortMode.allows]) (fun _ => .inr none) (by simp)
  unfold State.issueAccess
  dsimp only
  refine ⟨?_, ?_, ?_, ?_⟩
  · rw [State.reserveSlot_rst]; exact h.running
  · rw [State.reserveSlot_port]; exact port
  · rw [State.reserveSlot_port, State.reserveSlot_ren]; exact h.tick
  · rw [State.reserveSlot_port]; exact h.tInit

theorem State.PortRuns.issueClose (h : s.PortRuns) {b : BankNo} (may : s.closePermitted b = true) :
    (s.issueClose b).PortRuns := by
  simp only [State.closePermitted, Bool.and_eq_true, Bool.or_eq_true, decide_eq_true_eq] at may
  obtain ⟨⟨⟨-, opened⟩, dwell⟩, recovery⟩ := may
  have banks := h.setBank b ((h.bank b).1.close opened dwell recovery (s.now + s.timing.tClose))
    (PortMode.allows_of_busy (h.bank b).2 (by simp [opened]) (by simp)) (by simp)
  exact ⟨banks.running, banks.ok, banks.tick, banks.tInit⟩

theorem State.PortRuns.issueRenew (h : s.PortRuns) {b : BankNo} (may : s.renewPermitted b = true) :
    (s.issueRenew b).PortRuns := by
  simp only [State.renewPermitted, Bool.and_eq_true, Bool.or_eq_true, decide_eq_true_eq] at may
  obtain ⟨⟨mode, closed⟩, room⟩ := may
  have allowed : s.port.mode.allows .renewing = true := by
    rcases mode with (mode | mode) | mode
    · simp [mode, PortMode.allows]
    · simp [mode, PortMode.allows]
    · simp [mode.1, PortMode.allows]
  exact ⟨h.running, h.ok.setBank b ((h.bank b).1.renew closed (s.now + s.timing.tRen)) allowed (by simp) (fun _ => .inr room),
    h.tick, h.tInit⟩

theorem State.PortRuns.issue (h : s.PortRuns) {c : Cand} (may : s.permitted c = true) : (s.issue c).PortRuns := by
  obtain ⟨b, op, rank⟩ := c
  cases op
  case openFor e => exact h.issueOpen e may
  case access e =>
    simp only [State.permitted, Bool.and_eq_true] at may
    exact h.issueAccess may.1.1
  case close => exact h.issueClose may
  case renew => exact h.issueRenew may

/-! ### modes, hold and wake -/

/-- The mode and the halt requests change, the mode only among RUN, HALTING and HALTED. -/
theorem State.PortRuns.modes (h : s.PortRuns) {t : State} (m : PortMode) (commit drain hold : Bool)
    (running : t.rst = s.rst) (tick : t.ren.tick = s.ren.tick)
    (port : t.port = { s.port with mode := m, commitHalt := commit, drainHalt := drain, holdReq := hold })
    (among : m = s.port.mode ∨ m.renews = true ∧ s.port.mode.renews = true)
    (allowed : ∀ b, m.allows (s.bank b).state = true) (run : m = .run → commit = false ∧ drain = false)
    (halts : m = .halting ∨ m = .halted → commit = true ∨ drain = true) : t.PortRuns := by
  obtain ⟨banks, accessing, renewing, history, direction, -, -, exit⟩ := h.ok
  have same : (m.renews = true ↔ s.port.mode.renews = true) ∧ (m = .init ↔ s.port.mode = .init) ∧
      (m = .waking ↔ s.port.mode = .waking) := by
    rcases among with rfl | ⟨new, old⟩
    · simp
    · rw [PortMode.renews_iff] at new old
      rcases new with rfl | rfl | rfl <;> rcases old with old | old | old <;> simp [old, PortMode.renews]
  refine ⟨running.trans h.running, ?_, ?_, ?_⟩
  · rw [port]
    exact ⟨fun b => ⟨(banks b).1, allowed b⟩, accessing, renewing, history, direction, run, halts, exit.trans same.2.2.symm⟩
  · rw [port, tick, ← PortMode.renews_iff, same.1, PortMode.renews_iff]
    exact h.tick
  · rw [port]
    exact h.tInit.trans same.2.1.symm

theorem PortMode.allows_onHalt {m : PortMode} {st : BankState} (h : m.allows st = true) : m.onHalt.allows st = true := by
  cases m <;> exact h

theorem PortMode.onHalt_class (m : PortMode) : m.onHalt = m ∨ m.onHalt.renews = true ∧ m.renews = true := by
  cases m <;> simp [PortMode.onHalt, PortMode.renews]

theorem PortMode.onHalt_ne_run (m : PortMode) : m.onHalt ≠ .run := by
  cases m <;> simp [PortMode.onHalt]

theorem State.PortRuns.requestCommitHalt (h : s.PortRuns) : s.requestCommitHalt.PortRuns :=
  h.modes s.port.mode.onHalt true s.port.drainHalt s.port.holdReq rfl rfl rfl s.port.mode.onHalt_class
    (fun b => PortMode.allows_onHalt (h.bank b).2) (fun e => absurd e s.port.mode.onHalt_ne_run) fun _ => .inl rfl

theorem State.PortRuns.requestDrainHalt (h : s.PortRuns) : s.requestDrainHalt.PortRuns :=
  h.modes s.port.mode.onHalt s.port.commitHalt true s.port.holdReq rfl rfl rfl s.port.mode.onHalt_class
    (fun b => PortMode.allows_onHalt (h.bank b).2) (fun e => absurd e s.port.mode.onHalt_ne_run) fun _ => .inr rfl

/-- RUN allows what HALTING and HALTED allow. -/
theorem PortMode.run_allows {m : PortMode} {st : BankState} (mode : m = .halting ∨ m = .halted)
    (h : m.allows st = true) : PortMode.run.allows st = true := by
  rcases mode with rfl | rfl
  · exact h
  · cases st <;> simp_all [PortMode.allows]

/-- A halt is withdrawn: RUN comes with the last one (R20, R21), and the other keeps HALTING or HALTED. -/
theorem State.PortRuns.afterWithdrawal (h : s.PortRuns) (commit drain : Bool)
    (fewer : commit = true → s.port.commitHalt = true) (fewer' : drain = true → s.port.drainHalt = true) :
    ({ s with port := { s.port with commitHalt := commit, drainHalt := drain } } : State).afterWithdrawal.PortRuns := by
  obtain ⟨-, -, -, -, -, run, -, -⟩ := h.ok
  unfold State.afterWithdrawal
  split
  next last =>
    obtain ⟨mode, rfl, rfl⟩ := last
    refine h.modes .run false false s.port.holdReq rfl rfl rfl (.inr ⟨rfl, ?_⟩)
      (fun b => PortMode.run_allows mode (h.bank b).2) (by simp) (by simp)
    exact (PortMode.renews_iff _).2 (.inr mode)
  next stands =>
    refine h.modes s.port.mode commit drain s.port.holdReq rfl rfl rfl (.inl rfl) (fun b => (h.bank b).2) (fun mode => ?_)
      fun mode => ?_
    · have none := run mode
      exact ⟨by by_contra c; simp_all, by by_contra c; simp_all⟩
    · by_contra none
      rw [not_or, Bool.not_eq_true, Bool.not_eq_true] at none
      exact stands ⟨mode, none⟩

theorem State.PortRuns.withdrawCommitHalt (h : s.PortRuns) : s.withdrawCommitHalt.PortRuns := by
  unfold State.withdrawCommitHalt
  split
  · exact h.afterWithdrawal false s.port.drainHalt (by simp) id
  · exact h

theorem State.PortRuns.withdrawDrainHalt (h : s.PortRuns) : s.withdrawDrainHalt.PortRuns := by
  unfold State.withdrawDrainHalt
  split
  · exact h.afterWithdrawal s.port.commitHalt false id (by simp)
  · exact h

/-- What the port's record does not hold may change. -/
theorem State.PortRuns.congr (h : s.PortRuns) {t : State} (running : t.rst = s.rst) (port : t.port = s.port)
    (tick : t.ren.tick = s.ren.tick) : t.PortRuns :=
  ⟨running.trans h.running, port ▸ h.ok, by rw [port, tick]; exact h.tick, by rw [port]; exact h.tInit⟩

theorem State.PortRuns.commitPoint (h : s.PortRuns) : s.commitPoint.PortRuns := by
  have applied : ({ s.applyCommit with mgmt := s.applyCommit.mgmt.atCommit } : State).PortRuns := h.congr rfl rfl rfl
  unfold State.commitPoint
  dsimp only
  rw [State.commitReply_frame]
  exact applied.withdrawCommitHalt.congr rfl rfl rfl

/-- R20: HALTED is entered with every bank CLOSED. -/
theorem State.PortRuns.halted (h : s.PortRuns) (mode : s.port.mode = .halting) (closed : s.banksIn .closed = 16) :
    (s.setMode .halted).PortRuns := by
  obtain ⟨-, -, -, -, -, -, halts, -⟩ := h.ok
  have closed := Table.count_eq_all.1 closed
  refine h.modes .halted s.port.commitHalt s.port.drainHalt s.port.holdReq rfl rfl rfl
    (.inr ⟨rfl, by simp [mode, PortMode.renews]⟩) (fun b => ?_) (by simp) (fun _ => halts (.inl mode))
  have : (s.bank b).state = .closed := of_decide_eq_true (closed b)
  simp [this, PortMode.allows]

theorem State.PortRuns.holdReq (h : s.PortRuns) (b : Bool) :
    ({ s with port := { s.port with holdReq := b } } : State).PortRuns := by
  obtain ⟨-, -, -, -, -, run, halts, -⟩ := h.ok
  exact h.modes s.port.mode s.port.commitHalt s.port.drainHalt b rfl rfl rfl (.inl rfl) (fun b => (h.bank b).2) run halts

/-- A port whose banks are all idle in one state. -/
theorem Port.ok_of_idle {p : Port} {st : BankState} (banks : p.banks = Table.fill 16 (Bank.idle st))
    (idle : st = .closed ∨ st = .held) (allowed : p.mode.allows st = true) (history : p.history.length ≤ 4)
    (direction : p.direction = .noDir ↔ p.lastAccess = none)
    (run : p.mode = .run → p.commitHalt = false ∧ p.drainHalt = false)
    (halts : p.mode = .halting ∨ p.mode = .halted → p.commitHalt = true ∨ p.drainHalt = true)
    (exit : p.tExit.isSome ↔ p.mode = .waking) : p.Ok := by
  have none (x : BankState) (hx : st ≠ x) : (p.banks.count fun b => b.state = x) = 0 :=
    Table.count_eq_zero.2 fun b => by simpa [banks, Bank.idle] using hx
  refine ⟨fun b => ?_, ?_, ?_, history, direction, run, halts, exit⟩
  · rw [banks, Table.get_fill]
    exact ⟨Bank.ok_idle idle, allowed⟩
  · rw [none .accessing (by rcases idle with rfl | rfl <;> simp)]
    exact Nat.zero_le 1
  · rw [none .renewing (by rcases idle with rfl | rfl <;> simp)]
    exact Nat.zero_le 2

/-- R22: the hold. -/
theorem State.PortRuns.issueHold (h : s.PortRuns) (mode : s.port.mode = .halted) : s.issueHold.PortRuns := by
  obtain ⟨-, -, -, history, direction, -, -, exit⟩ := h.ok
  rw [State.issueHold_frame]
  refine ⟨h.running, Port.ok_of_idle rfl (.inr rfl) rfl history direction (by simp) (by simp) ?_, by simp, ?_⟩
  · simpa [mode] using exit
  · simpa [mode] using h.tInit

/-- R23: the wake. -/
theorem State.PortRuns.wake (h : s.PortRuns) : s.wake.PortRuns := by
  obtain ⟨banks, accessing, renewing, history, direction, run, halts, exit⟩ := h.ok
  unfold State.wake
  split
  next mode =>
    have tick := h.tick
    have tInit := h.tInit
    have banks : ∀ b, (s.port.banks.get b).Ok ∧ PortMode.waking.allows (s.port.banks.get b).state = true := by
      simpa [mode, PortMode.allows] using banks
    rw [mode] at tick tInit
    exact ⟨h.running, ⟨banks, accessing, renewing, history, direction, by simp [State.zeroDebts],
      by simp [State.zeroDebts], by simp [State.zeroDebts]⟩, by simpa [State.zeroDebts] using tick,
      by simpa [State.zeroDebts] using tInit⟩
  next => exact h

/-- R18, R23: INIT or WAKING is left for RUN, or for HALTING where a halt request stands. -/
theorem State.runs_leaveIdleMode {s : State} (running : s.rst = none) (history : s.port.history.length ≤ 4)
    (direction : s.port.direction = .noDir ↔ s.port.lastAccess = none) (tInit : s.port.tInit = none)
    (tExit : s.port.tExit = none) (closed : ∀ b, (s.bank b).Ok ∧ (s.bank b).state = .closed) :
    s.leaveIdleMode.PortRuns := by
  have none (x : BankState) (hx : x ≠ .closed) : (s.port.banks.count fun b => b.state = x) = 0 :=
    Table.count_eq_zero.2 fun b => decide_eq_false fun e => hx (e.symm.trans (closed b).2)
  have accessing : (s.port.banks.count fun x => x.state = .accessing) ≤ 1 := (none _ (by simp)).le.trans (by omega)
  have renewing : (s.port.banks.count fun x => x.state = .renewing) ≤ 2 := (none _ (by simp)).le.trans (by omega)
  have allowed (m : PortMode) (hm : m = .run ∨ m = .halting) (b : BankNo) :
      (s.bank b).Ok ∧ m.allows (s.bank b).state = true := by
    refine ⟨(closed b).1, ?_⟩
    rcases hm with rfl | rfl <;> simp [(closed b).2, PortMode.allows]
  unfold State.leaveIdleMode
  dsimp only
  split
  next stands =>
    refine ⟨running, ⟨allowed .halting (.inr rfl), accessing, renewing, history, direction, ?_, fun _ => stands, ?_⟩,
      ?_, ?_⟩ <;> simp [State.startTick, State.setMode, tInit, tExit]
  next none =>
    rw [not_or, Bool.not_eq_true, Bool.not_eq_true] at none
    refine ⟨running, ⟨allowed .run (.inl rfl), accessing, renewing, history, direction, fun _ => none, ?_, ?_⟩,
      ?_, ?_⟩ <;> simp [State.startTick, State.enterRun, State.setPart, State.setMode, tInit, tExit]

theorem State.PortRuns.tInit_expires (h : s.PortRuns) (mode : s.port.mode = .init) :
    ({ s with port := { s.port with tInit := none } } : State).leaveIdleMode.PortRuns := by
  obtain ⟨banks, -, -, history, direction, -, -, exit⟩ := h.ok
  refine State.runs_leaveIdleMode h.running history direction rfl ?_ fun b => ⟨(banks b).1, ?_⟩
  · simpa [mode] using exit
  · have allowed := (banks b).2
    rw [mode] at allowed
    exact of_decide_eq_true allowed

theorem State.PortRuns.tExit_expires (h : s.PortRuns) (mode : s.port.mode = .waking) :
    (({ s with port := { s.port with tExit := none } } : State).allBanks .closed).leaveIdleMode.PortRuns := by
  obtain ⟨-, -, -, history, direction, -, -, -⟩ := h.ok
  have tInit := h.tInit
  refine State.runs_leaveIdleMode h.running history direction ?_ rfl fun b => ?_
  · simpa [mode, State.allBanks] using tInit
  · have closed : (({ s with port := { s.port with tExit := none } } : State).allBanks .closed).bank b =
        Bank.idle .closed := Table.get_fill _ b
    rw [closed]
    exact ⟨Bank.ok_idle (.inl rfl), rfl⟩

/-! ### the bank timers and an access completion -/

theorem State.PortRuns.completeBank (h : s.PortRuns) {b : BankNo} (kind : AccessKind)
    (accessing : (s.bank b).state = .accessing) : (s.completeBank b kind).PortRuns := by
  have allowed : s.port.mode.allows .opened = true :=
    PortMode.allows_of_busy (h.bank b).2 (by simp [accessing]) (by simp)
  have bank : (s.setBank b (match (generalizing := false) kind with
      | .read => { s.bank b with state := .opened, access := none, tAccess := none, oldChunks := [] }
      | .write | .merge =>
        { s.bank b with
          state := .opened, access := none, tAccess := none, oldChunks := [], recoveryMet := false
          tWrec := some (s.now + s.timing.tWrec) })).PortRuns := by
    cases kind
    · exact h.setBank b ((h.bank b).1.readDone accessing) allowed (by simp)
    · exact h.setBank b ((h.bank b).1.writeDone accessing _) allowed (by simp)
    · exact h.setBank b ((h.bank b).1.writeDone accessing _) allowed (by simp)
  obtain ⟨running, ⟨banks, acc, ren, history, -, run, halts, exit⟩, tick, tInit⟩ := bank
  have direction : kind.endDir = .noDir ↔ some s.now = none := by cases kind <;> simp [AccessKind.endDir]
  cases kind <;> exact ⟨running, ⟨banks, acc, ren, history, direction, run, halts, exit⟩, tick, tInit⟩

/-! ### reset -/

theorem State.portOk_beginReset (s : State) : s.beginReset.PortOk := by
  have reset (kind : StartKind) : (Port.reset kind).Ok ∧ (Port.reset kind).mode.renews = false := by
    cases kind
    · exact ⟨Port.ok_of_idle (st := .closed) rfl (.inl rfl) rfl (Nat.zero_le 4) (by simp [Port.reset])
        (by simp [Port.reset]) (by simp [Port.reset]) (by simp [Port.reset]), rfl⟩
    · exact ⟨Port.ok_of_idle (st := .held) rfl (.inr rfl) rfl (Nat.zero_le 4) (by simp [Port.reset])
        (by simp [Port.reset]) (by simp [Port.reset]) (by simp [Port.reset]), rfl⟩
  obtain ⟨ok, mode⟩ := reset s.startKind
  refine ⟨ok, ?_, fun k hk => ?_, fun running => by cases running⟩
  · rw [← PortMode.renews_iff]
    simp [State.beginReset, RenewalUnit.reset, mode]
  · cases hk
    rfl

/-- R18, R23: the end of a reset starts T_INIT or the wake. -/
theorem State.PortOk.endReset {kind : StartKind} (h : s.PortOk) (reset : s.rst = some kind) :
    (s.endReset kind).PortRuns := by
  obtain ⟨ok, tick, port, -⟩ := h
  have port := port kind reset
  have started : (({ s with rst := none } : State).startPort kind).PortRuns := by
    cases kind
    · refine ⟨rfl, ?_, ?_, ?_⟩ <;> simp only [State.startPort] <;> rw [port] at ok tick ⊢
      · exact ok
      · exact tick
      · simp [Port.reset]
    · have held : ({ s with rst := none } : State).PortRuns := by
        refine ⟨rfl, ok, tick, ?_⟩
        rw [port]
        simp [Port.reset]
      exact held.wake
  rw [State.endReset_frame]
  exact started.congr (by rw [State.startPort_frame]) rfl rfl

end

/-- Every operation keeps the running port. -/
theorem kept_portRuns : Kept State.PortRuns where
  link _ _ h := h.congr rfl rfl rfl
  lane _ _ h := h.congr rfl rfl rfl
  pin _ _ h := h.congr rfl rfl rfl
  clock _ _ h := h.congr rfl rfl rfl
  draws _ _ h := h.congr rfl rfl rfl
  replyHold _ _ h := h.congr rfl rfl rfl
  cancelHold _ _ h := h.congr rfl rfl rfl
  idle _ _ h := h.congr rfl rfl rfl
  mgmt _ _ _ _ _ h := h.congr rfl rfl rfl
  setStaged _ _ _ _ h := h.congr rfl rfl rfl
  discard _ h := h.congr rfl rfl rfl
  setCommit _ _ _ h := h.congr rfl rfl rfl
  commitHalt _ h := h.requestCommitHalt
  drainHalt _ h := h.requestDrainHalt
  withdrawDrainHalt _ h := h.withdrawDrainHalt
  commitPoint _ _ h := h.commitPoint
  halted _ mode closed h := h.halted mode closed
  holdReq _ b h := h.holdReq b
  hold _ mode h := h.issueHold mode
  wake _ h := h.wake
  issue _ _ chosen h := h.issue (State.choice_permitted chosen).2
  lose _ h := h.congr (by simp) (by simp) (by simp)
  restart s h := (State.portOk_beginReset s).endReset rfl
  admits s k _ q w _ h := by
    rw [State.admitRequest_frame]
    exact h.congr rfl rfl rfl
  cancel _ _ _ _ _ h := h.congr (by simp) (by simp) (by simp)
  release s r p _ _ _ h := by
    rw [State.releasePlace_frame]
    exact h.congr rfl rfl rfl
  tInit _ mode h := h.tInit_expires mode
  tExit _ mode h := h.tExit_expires mode
  tOa s b opening h := h.setBank b ((h.bank b).1.opened opening)
    (PortMode.allows_of_busy (h.bank b).2 (by simp [opening]) (by simp)) (by simp)
  tDwell s b h := h.setBank_same b (h.bank b).1.dwell rfl
  tWrec s b h := h.setBank_same b (h.bank b).1.recover rfl
  tClose s b closing h := h.setBank b ((h.bank b).1.closed closing)
    (PortMode.allows_of_busy (h.bank b).2 (by simp [closing]) (by simp)) (by simp)
  tRen s b renewing h := (h.setBank b ((h.bank b).1.renewed renewing)
    (PortMode.allows_closed_of_renewing (renewing ▸ (h.bank b).2)) (by simp)).congr rfl rfl rfl
  completeBank _ _ kind accessing h := h.completeBank kind accessing
  tick s t ticks h := by
    have tick := h.tick
    rw [State.tickRecords_frame]
    refine ⟨h.running, h.ok, ?_, h.tInit⟩
    simpa [State.startTick, ticks] using tick
  lapses _ _ h := h.congr rfl rfl rfl

/-- Settles O52: out of reset by what keeps the running port; a reset brings the port to its reset values, and its end
starts it. -/
theorem stepKeepsPort : Obligations.StepKeepsPort := by
  refine step_keeps (fun _ _ ok => ok) (fun _ _ ok => ok) fun c s t ok h => ?_
  rcases exec_cases h with rfl | x | ⟨running, x⟩
  · exact ok
  · cases x
    case assert => exact s.portOk_beginReset
    case release reset => exact (ok.endReset reset).portOk
    case present | lost => exact ok
    case trains running _ | down running _ => exact ((ok.runs running).congr rfl rfl rfl).portOk
    case recovers running _ =>
      exact (kept_portRuns.byLink.enterRecovery _ (kept_portRuns.pin s _ (ok.runs running))).portOk
  · refine (kept_portRuns.effect x (.inr fun s b e olds ups _ h => ?_) (ok.runs running)).portOk
    rw [State.accessEffect_frame]
    exact h.congr (by simp [State.completeEntry]) (by simp [State.completeEntry]) (by simp [State.completeEntry])

end Sys2Proof.Machine
end

section
/-! PROOFS. Every debt stays in −4 to +8 (chapter 5): one bank's record under the tick, a renew completion and a commit
point, the issue of a renew, which finds at least −3, and with them every step. -/

namespace Sys2Proof.Machine

/-! ### one bank's record -/

/-- R96, R103: what `State.DebtsOk` asks of one bank, whose renewal record is `r` and which is RENEWING or not. -/
structure Renewal.Fits (r : Renewal) (renewing : Prop) : Prop where
  low : -4 ≤ r.debt
  high : r.debt ≤ 8
  exempt : r.exempt = true → r.debt = 0
  renew : renewing → r.exempt = true ∨ -3 ≤ r.debt

theorem State.debtsOk_iff {s : State} :
    s.DebtsOk ↔ ∀ b, (s.ren.records.get b).Fits ((s.bank b).state = .renewing) :=
  forall_congr' fun _ => ⟨fun h => ⟨h.1, h.2.1, h.2.2.1, h.2.2.2⟩, fun h => ⟨h.1, h.2, h.3, h.4⟩⟩

section
variable {r : Renewal} {p q : Prop}

theorem Renewal.Fits.imp (h : r.Fits p) (fewer : q → p) : r.Fits q := ⟨h.low, h.high, h.exempt, h.renew ∘ fewer⟩

/-- A record with debt 0 fits whatever the bank does. -/
theorem Renewal.fits_zero (zero : r.debt = 0) : r.Fits p :=
  ⟨by omega, by omega, fun _ => zero, fun _ => .inr (by omega)⟩

theorem Renewal.Fits.ticked (h : r.Fits p) : r.ticked.Fits p := by
  obtain ⟨low, high, exempt, renew⟩ := h
  unfold Renewal.ticked
  split
  · exact ⟨low, high, exempt, renew⟩
  next notExempt =>
    split
    · exact ⟨low, high, exempt, renew⟩
    next below =>
      refine ⟨by dsimp only; omega, by dsimp only; omega, fun e => absurd e notExempt, fun renewing => ?_⟩
      exact (renew renewing).imp_right fun floor => by dsimp only; omega

/-- R103: a renew completion leaves at least −4. -/
theorem Renewal.Fits.renewed (h : r.Fits True) : r.renewed.Fits False := by
  obtain ⟨low, high, exempt, renew⟩ := h
  unfold Renewal.renewed
  split
  · exact ⟨low, high, exempt, False.elim⟩
  next notExempt =>
    have floor := (renew trivial).resolve_left notExempt
    exact ⟨by dsimp only; omega, by dsimp only; omega, fun e => absurd e notExempt, False.elim⟩

/-- R104: a commit point exempts the bank, or does not. A renew that outlives the exemption finds debt 0. -/
theorem Renewal.Fits.atCommit (h : r.Fits p) (exempts : Bool) : (r.atCommit exempts).Fits p := by
  obtain ⟨low, high, exempt, renew⟩ := h
  cases exempts
  · refine ⟨low, high, fun e => (Bool.false_ne_true e).elim, fun renewing => .inr ?_⟩
    rcases renew renewing with e | floor
    · rw [show (r.atCommit false).debt = 0 from exempt e]
      omega
    · exact floor
  · refine Renewal.fits_zero ?_
    cases e : r.exempt
    · simp [Renewal.atCommit, e]
    · simp [Renewal.atCommit, e, exempt e]

end

/-! ### the state -/

section
variable {s : State}

/-- The records stay, and no bank becomes RENEWING. -/
theorem State.DebtsOk.congr (h : s.DebtsOk) {t : State} (records : t.ren.records = s.ren.records)
    (banks : ∀ b, (t.bank b).state = .renewing → (s.bank b).state = .renewing) : t.DebtsOk := by
  rw [State.debtsOk_iff] at *
  exact fun b => records ▸ (h b).imp (banks b)

theorem State.DebtsOk.setBank (h : s.DebtsOk) (b : BankNo) {r : Bank}
    (quiet : r.state = .renewing → (s.bank b).state = .renewing) : (s.setBank b r).DebtsOk := by
  refine h.congr rfl fun c hc => ?_
  by_cases e : c = b
  · subst e
    rw [State.bank_setBank_same] at hc
    exact quiet hc
  · rwa [State.bank_setBank_ne _ _ e] at hc

/-- The renewal unit asks for a renew where the debt is at least −3 (R100, R101). -/
theorem State.renWant_floor {b : BankNo} (h : s.renWant b = some .renew) : -3 ≤ (s.ren.records.get b).debt := by
  by_cases silent : s.RenewalSilent b
  · rw [State.renWant_of_silent silent] at h
    cases h
  rw [State.renWant_of_not_silent silent] at h
  split at h
  next urgent =>
    have := ((s.urgent_iff b).1 urgent).2
    omega
  next =>
    split at h
    next due =>
      rcases due with due | pullIn
      · omega
      · exact pullIn.1
    next => cases h

/-- Of the wants that the gate sees, the renewal unit's alone are renews. -/
theorem State.renew_of_mem_cands {c : Cand} (mem : c ∈ s.cands) (op : c.op = .renew) :
    s.renWant c.bank = some .renew := by
  obtain ⟨b, -, mem⟩ := List.mem_flatMap.1 mem
  simp only [List.mem_append, Option.mem_toList] at mem
  rcases mem with (sched | ren) | halt
  · obtain ⟨w, -, rfl⟩ := Option.map_eq_some_iff.1 sched
    cases w <;> cases op
  · obtain ⟨w, want, rfl⟩ := Option.map_eq_some_iff.1 ren
    cases w
    · cases op
    · exact want
  · unfold State.haltCand at halt
    split at halt
    · cases halt
      cases op
    · cases halt

theorem State.DebtsOk.issue (h : s.DebtsOk) {c : Cand} (chosen : s.choice = some c) : (s.issue c).DebtsOk := by
  have records : (s.issue c).ren = s.ren := by rw [State.issue_frame]
  have ⟨after, others⟩ := s.issue_bank c
  by_cases op : c.op = .renew
  · have floor := State.renWant_floor (State.renew_of_mem_cands (State.choice_permitted chosen).1 op)
    rw [State.debtsOk_iff] at *
    intro b
    rw [records]
    by_cases e : b = c.bank
    · subst e
      obtain ⟨low, high, exempt, -⟩ := h c.bank
      exact ⟨low, high, exempt, fun _ => .inr floor⟩
    · rw [others b e]
      exact h b
  · refine h.congr (by rw [records]) fun b hb => ?_
    by_cases e : b = c.bank
    · subst e
      rw [after] at hb
      cases hop : c.op <;> simp_all [Op.after]
    · rwa [others b e] at hb

theorem State.DebtsOk.renewDone (h : s.DebtsOk) {b : BankNo} (renewing : (s.bank b).state = .renewing) {r : Bank}
    (closed : r.state = .closed) : ((s.setBank b r).renewDone b).DebtsOk := by
  rw [State.debtsOk_iff] at *
  intro c
  show ((s.ren.records.set b (s.ren.records.get b).renewed).get c).Fits (((s.setBank b r).bank c).state = .renewing)
  by_cases e : c = b
  · subst e
    rw [Table.get_set_same, State.bank_setBank_same, closed]
    exact ((h c).imp fun _ => renewing).renewed.imp (by simp)
  · rw [Table.get_set_ne _ _ e, State.bank_setBank_ne _ _ e]
    exact h c

/-- Every record has debt 0. -/
theorem State.debtsOk_of_zero (zero : ∀ b, (s.ren.records.get b).debt = 0) : s.DebtsOk :=
  State.debtsOk_iff.2 fun b => Renewal.fits_zero (zero b)

/-- Every record is changed by what keeps it in bounds. -/
theorem State.DebtsOk.mapRecords (h : s.DebtsOk) {t : State} {f : BankNo → Renewal → Renewal}
    (records : t.ren.records = s.ren.records.mapIdx f) (banks : t.port.banks = s.port.banks)
    (fits : ∀ b r p, Renewal.Fits r p → (f b r).Fits p) : t.DebtsOk := by
  rw [State.debtsOk_iff] at *
  intro b
  rw [records, Table.get_mapIdx, State.bank, banks]
  exact fits b _ _ (h b)

theorem State.DebtsOk.wake (h : s.DebtsOk) : s.wake.DebtsOk := by
  unfold State.wake
  split
  · exact State.debtsOk_of_zero fun b => by simp [State.zeroDebts]
  · exact h

theorem State.DebtsOk.endReset (h : s.DebtsOk) (kind : StartKind) : (s.endReset kind).DebtsOk := by
  have started : (({ s with rst := none } : State).startPort kind).DebtsOk := by
    cases kind
    · exact h
    · exact State.DebtsOk.wake h
  rw [State.endReset_frame]
  exact started

/-- R110: at a reset every debt is 0. -/
theorem State.debtsOk_beginReset (s : State) : s.beginReset.DebtsOk :=
  State.debtsOk_of_zero fun b => by simp [State.beginReset, RenewalUnit.reset]

end

/-- Every operation keeps the debts in bounds. -/
theorem kept_debtsOk : Kept State.DebtsOk where
  link _ _ h := h
  lane _ _ h := h
  pin _ _ h := h
  clock _ _ h := h
  draws _ _ h := h
  replyHold _ _ h := h
  cancelHold _ _ h := h
  idle _ _ h := h
  mgmt _ _ _ _ _ h := h
  setStaged _ _ _ _ h := h
  discard _ h := h
  setCommit _ _ _ h := h
  commitHalt _ h := h
  drainHalt _ h := h
  withdrawDrainHalt s h := by rw [State.withdrawDrainHalt_frame]; exact h
  commitPoint s _ h := by
    rw [State.commitPoint_frame]
    exact h.mapRecords rfl rfl fun b r p fits => fits.atCommit _
  halted _ _ _ h := h
  holdReq _ _ h := h
  hold s _ h := by
    rw [State.issueHold_frame]
    refine h.congr rfl fun b hb => ?_
    simp [State.bank, Bank.idle] at hb
  wake _ h := h.wake
  issue _ _ chosen h := h.issue chosen
  lose s h := h.congr (by simp) fun b hb => by simpa [State.bank] using hb
  restart s _ := s.debtsOk_beginReset.endReset _
  admits s k _ q w _ h := by rw [State.admitRequest_frame]; exact h
  cancel s e _ _ _ h := h.congr (by simp) fun b hb => by simpa [State.bank] using hb
  release s r p _ _ _ h := by rw [State.releasePlace_frame]; exact h
  tInit s _ h := by rw [State.leaveIdleMode_frame]; exact h
  tExit s _ h := by
    rw [State.leaveIdleMode_frame]
    refine h.congr rfl fun b hb => ?_
    simp [State.bank, State.allBanks, Bank.idle] at hb
  tOa s b _ h := h.setBank b (by simp)
  tDwell s b h := h.setBank b id
  tWrec s b h := h.setBank b id
  tClose s b _ h := h.setBank b (by simp)
  tRen s b renewing h := h.renewDone renewing rfl
  completeBank s b kind _ h := by
    cases kind <;> exact h.setBank b (by simp)
  tick s t _ h := by
    rw [State.tickRecords_frame]
    exact h.mapRecords rfl rfl fun b r p fits => fits.ticked
  lapses s x h := by
    refine h.mapRecords (f := fun b r => if x b then { r with lapse := false } else r) rfl rfl fun b r p fits => ?_
    split
    · exact ⟨fits.low, fits.high, fits.exempt, fits.renew⟩
    · exact fits

/-- Settles O53: by what keeps the debts in bounds; a reset sets every debt to 0. -/
theorem stepKeepsDebts : Obligations.StepKeepsDebts := by
  intro s t _
  refine step_keeps (fun _ _ ok => ok) (fun _ _ ok => ok) (fun c s t ok h => ?_) s t
  rcases exec_cases h with rfl | x | ⟨-, x⟩
  · exact ok
  · exact kept_debtsOk.pinEffect x (fun _ => s.debtsOk_beginReset) (fun kind _ => ok.endReset kind) ok
  · refine kept_debtsOk.effect x (.inr fun s b e olds ups _ h => ?_) ok
    rw [State.accessEffect_frame]
    exact h.congr (by simp [State.completeEntry]) fun b hb => by simpa [State.bank, State.completeEntry] using hb

end Sys2Proof.Machine
end

section
/-! PROOFS. What an issue does (O13): the effects of an open, a close and a renew, and of an access, entry by entry; which
entries the scheduler's wants serve. -/

namespace Sys2Proof.Machine

/-! ### the entries that wants serve -/

section
variable {s : State}

theorem chosen_mem {l : List Entry} {e : Entry} (h : chosen l = some e) : e ∈ l := by
  obtain ⟨older, younger, rfl, -⟩ := chosen_eq_some h
  simp

/-- An entry that a want serves is a ready one of the bank. -/
theorem State.schedWant_entry {b : BankNo} {w : SchedWant} {e : Entry} (h : s.schedWant b = some w)
    (serves : (Want.sched w).serves = some e) : e ∈ s.readyFor b := by
  have calm : s.urgent b = false := by
    by_contra urgent
    rw [State.schedWant_of_urgent (by simpa using urgent)] at h
    cases h
  cases page : (s.bank b).openPage with
  | none =>
    rw [State.schedWant_of_noPage calm page] at h
    obtain ⟨e', he, rfl⟩ := Option.map_eq_some_iff.1 h
    cases serves
    exact chosen_mem he
  | some p =>
    rw [State.schedWant_of_openPage calm page] at h
    by_cases row1 : OverdueMiss p (s.readyFor b)
    · rw [State.wantOpenPage_of_overdueMiss row1] at h
      obtain ⟨e', he, rfl⟩ := Option.map_eq_some_iff.1 h
      cases serves
      exact List.mem_of_mem_filter (chosen_mem he)
    rw [State.wantOpenPage_of_not_overdueMiss row1] at h
    rcases Option.or_eq_some_iff.1 h with h | ⟨-, h⟩
    · obtain ⟨e', he, rfl⟩ := Option.map_eq_some_iff.1 h
      cases serves
      exact List.mem_of_mem_filter (chosen_mem he)
    rcases Option.or_eq_some_iff.1 h with h | ⟨-, h⟩
    · obtain ⟨e', he, rfl⟩ := Option.map_eq_some_iff.1 h
      cases serves
      exact List.mem_of_mem_filter (chosen_mem he)
    · rw [State.wantOpenPage_nil] at h
      split at h
      · cases h
        cases serves
      · split at h
        · cases h
          cases serves
        · cases h

theorem State.mem_readyFor {b : BankNo} {e : Entry} : e ∈ s.readyFor b ↔ e ∈ s.sched.list ∧ e.bank = b ∧ s.ready e = true := by
  simp [State.readyFor]

/-- Of the wants that the gate sees, the scheduler's alone are accesses, each for a ready entry of its bank. -/
theorem State.access_of_mem_cands {c : Cand} {e : Entry} (mem : c ∈ s.cands) (op : c.op = .access e) :
    s.schedWant c.bank = some (.access e) := by
  obtain ⟨b, -, mem⟩ := List.mem_flatMap.1 mem
  simp only [List.mem_append, Option.mem_toList] at mem
  rcases mem with (sched | ren) | halt
  · obtain ⟨w, want, rfl⟩ := Option.map_eq_some_iff.1 sched
    cases w <;> cases op
    exact want
  · obtain ⟨w, -, rfl⟩ := Option.map_eq_some_iff.1 ren
    cases w <;> cases op
  · unfold State.haltCand at halt
    split at halt
    · cases halt
      cases op
    · cases halt

/-- The entry of an access that the gate issues is a ready one of the list. -/
theorem State.choice_access {c : Cand} {e : Entry} (h : s.choice = some c) (op : c.op = .access e) :
    e ∈ s.sched.list ∧ e.bank = c.bank ∧ s.ready e = true :=
  State.mem_readyFor.1 (State.schedWant_entry (State.access_of_mem_cands (State.choice_permitted h).1 op) rfl)

end

/-! ### aging (R83) -/

/-- R83: what the issue of a younger entry's access does to an entry. -/
def State.aged (s : State) (e : Entry) : Entry :=
  if e.state = .waiting ∧ e.blockedBy = none ∧ e.bypass < 255 then
    { e with
      bypass := e.bypass + 1
      overdue := e.overdue || decide ((s.mgmt.active.requesters.get e.requester).ageLimit ≤ e.bypass + 1) }
  else e

theorem State.aged_eq (s : State) (e : Entry) : (if e.eligible then s.age e else e) = s.aged e := by
  unfold State.aged State.age
  simp only [Entry.eligible_iff, ← and_assoc]
  by_cases el : e.state = .waiting ∧ e.blockedBy = none <;> by_cases room : e.bypass < 255 <;> simp [el, room]

@[simp] theorem State.aged_id (s : State) (e : Entry) : (s.aged e).id = e.id := by unfold State.aged; split <;> rfl

theorem State.ageOlder_of_lt (s : State) {n : Nat} {l : List Entry} (younger : ∀ x ∈ l, n < x.id) :
    l.map (fun x => if x.id < n then s.aged x else x) = l := by
  refine List.map_congr_left (g := id) (fun x hx => ?_) |>.trans (List.map_id l)
  exact if_neg (younger x hx).not_gt

/-- In a list in age order the entries that age are those of lower `id`. -/
theorem State.ageOlder_eq_map (s : State) {id : Nat} {l : List Entry} (sorted : l.Pairwise fun x y => x.id < y.id)
    (mem : ∃ x ∈ l, x.id = id) : s.ageOlder id l = l.map fun x => if x.id < id then s.aged x else x := by
  induction l with
  | nil => simp at mem
  | cons x xs ih =>
    rw [List.pairwise_cons] at sorted
    unfold State.ageOlder
    by_cases hx : x.id = id
    · subst hx
      rw [if_pos rfl, List.map_cons, if_neg (lt_irrefl _), State.ageOlder_of_lt s sorted.1]
    · have later : ∃ y ∈ xs, y.id = id := by simpa [hx] using mem
      obtain ⟨y, hy, rfl⟩ := later
      rw [if_neg hx, ih sorted.2 ⟨y, hy, rfl⟩, State.aged_eq, List.map_cons, if_pos (sorted.1 y hy)]

/-! ### an access (R6, R27, R82, R83, R113) -/

/-- The response slot that the issue of an entry's access reserves (R82, R113). -/
def State.slotFor (s : State) (e : Entry) : Option (Fin 32) :=
  if e.kind = .read then s.resp.slots.findIdx? (fun x => x = .free) else none

/-- An entry at its own issue. -/
def Entry.issuedWith (e : Entry) (slot : Option (Fin 32)) : Entry :=
  { e with state := .issued, respSlot := if slot = none then e.respSlot else slot }

/-- R6: the bank's record after the issue of an access. -/
def State.bankAfterAccess (s : State) (b : BankNo) (e : Entry) : Bank :=
  { s.bank b with
    state := .accessing, access := some (s.accessKind e), tAccess := some (s.now + s.timing.duration (s.accessKind e))
    oldChunks := s.readOld e (s.accessKind e) }

/-- The list after the issue of an access, entry by entry. -/
def State.listAfterAccess (s : State) (e : Entry) : List Entry :=
  s.sched.list.map fun x => if x.id = e.id then x.issuedWith (s.slotFor e) else if x.id < e.id then s.aged x else x

def State.slotsAfterAccess (s : State) (e : Entry) : Table 32 RespSlot :=
  match s.slotFor e with
  | some i => s.resp.slots.set i (.reserved e.slotOwner false)
  | none => s.resp.slots

theorem State.reserveSlot_eq (s : State) (e : Entry) :
    s.reserveSlot e =
      { s with
        sched := { s.sched with list := s.sched.list.map fun x =>
          if x.id = e.id then { x with respSlot := if s.slotFor e = none then x.respSlot else s.slotFor e } else x }
        resp := { s.resp with slots := s.slotsAfterAccess e } } := by
  have same : s.sched.list.map (fun x => if x.id = e.id then { x with respSlot := x.respSlot } else x) = s.sched.list := by
    refine List.map_congr_left (g := id) (fun x _ => ?_) |>.trans (List.map_id _)
    split <;> rfl
  unfold State.reserveSlot State.slotsAfterAccess State.slotFor
  by_cases read : e.kind = .read
  · rw [if_pos read, if_pos read]
    cases s.resp.slots.findIdx? (fun x => x = .free) with
    | none =>
      simp only [if_true, same]
    | some i => rfl
  · simp only [if_neg read, if_true, same]

/-- R6, R82, R83: what the issue of an access does, for an entry of a list in age order. -/
theorem State.issueAccess_eq {s : State} (b : BankNo) {e : Entry} (sorted : s.sched.list.Pairwise fun x y => x.id < y.id)
    (mem : e ∈ s.sched.list) :
    s.issueAccess b e =
      { s with
        port := { s.port with banks := s.port.banks.set b (s.bankAfterAccess b e) }
        sched := { s.sched with list := s.listAfterAccess e }
        resp := { s.resp with slots := s.slotsAfterAccess e } } := by
  have aged : (s.setBank b (s.bankAfterAccess b e)).ageOlder e.id s.sched.list =
      s.sched.list.map fun x => if x.id < e.id then s.aged x else x :=
    State.ageOlder_eq_map _ sorted ⟨e, mem, rfl⟩
  have list : (((s.setBank b (s.bankAfterAccess b e)).ageOlder e.id s.sched.list).map
        (fun x => if x.id = e.id then { x with state := .issued } else x)).map (fun x =>
          if x.id = e.id then { x with respSlot := if s.slotFor e = none then x.respSlot else s.slotFor e } else x) =
      s.listAfterAccess e := by
    rw [aged, List.map_map, List.map_map]
    refine List.map_congr_left fun x _ => ?_
    by_cases own : x.id = e.id
    · simp [own, Entry.issuedWith]
    · by_cases older : x.id < e.id <;> simp [own, older]
  refine (State.reserveSlot_eq _ e).trans ?_
  exact congrArg (fun l => ({ s with
    port := { s.port with banks := s.port.banks.set b (s.bankAfterAccess b e) }
    sched := { s.sched with list := l }
    resp := { s.resp with slots := s.slotsAfterAccess e } } : State)) list

/-! ### partial chunks (R6) -/

theorem WriteSlot.chunkEnables_getD (w : WriteSlot) (k : Nat) {n : Nat} (h : n < 32) :
    (w.chunkEnables k).getD n false = w.enables.getD (32 * k + n) false := by
  simp [WriteSlot.chunkEnables, List.getD_eq_getElem?_getD, h]

theorem WriteSlot.chunkEnables_length {w : WriteSlot} (len : w.enables.length = 256) {k : Nat} (h : k < 8) :
    (w.chunkEnables k).length = 32 := by
  simp [WriteSlot.chunkEnables, len]
  omega

theorem List.any_id_iff {l : List Bool} {n : Nat} (len : l.length = n) :
    l.any id = true ↔ ∃ i < n, l.getD i false = true := by
  subst len
  constructor
  · intro h
    obtain ⟨x, hx, rfl⟩ := List.any_eq_true.1 h
    obtain ⟨i, hi, e⟩ := List.getElem_of_mem hx
    exact ⟨i, hi, by simpa [List.getD_eq_getElem?_getD, hi] using e⟩
  · rintro ⟨i, hi, e⟩
    exact List.any_eq_true.2 ⟨l[i], List.getElem_mem hi, by simpa [List.getD_eq_getElem?_getD, hi] using e⟩

theorem List.all_id_iff {l : List Bool} {n : Nat} (len : l.length = n) :
    l.all id = true ↔ ∀ i < n, l.getD i false = true := by
  subst len
  constructor
  · intro h i hi
    simpa [List.getD_eq_getElem?_getD, hi] using List.all_eq_true.1 h _ (List.getElem_mem hi)
  · intro h
    refine List.all_eq_true.2 fun x hx => ?_
    obtain ⟨i, hi, rfl⟩ := List.getElem_of_mem hx
    simpa [List.getD_eq_getElem?_getD, hi] using h i hi

section
variable {w : WriteSlot} (len : w.enables.length = 256) {k : Nat} (small : k < 8)
include len small

theorem WriteSlot.any_enabled_iff :
    (w.chunkEnables k).any id = true ↔ ∃ n < 32, w.enables.getD (32 * k + n) false = true := by
  rw [List.any_id_iff (WriteSlot.chunkEnables_length len small)]
  exact exists_congr fun n => and_congr_right fun h => by rw [w.chunkEnables_getD k h]

theorem WriteSlot.all_enabled_iff :
    (w.chunkEnables k).all id = true ↔ ∀ n < 32, w.enables.getD (32 * k + n) false = true := by
  rw [List.all_id_iff (WriteSlot.chunkEnables_length len small)]
  exact forall_congr' fun n => forall_congr' fun h => by rw [w.chunkEnables_getD k h]

/-- R6 note 1: a chunk is partial where some of its enables are on and some off. -/
theorem WriteSlot.partialChunk_iff :
    w.partialChunk k = true ↔ (∃ n < 32, w.enables.getD (32 * k + n) false = true) ∧
      ∃ n < 32, w.enables.getD (32 * k + n) false = false := by
  have notAll : (!(w.chunkEnables k).all id) = true ↔ ∃ n < 32, w.enables.getD (32 * k + n) false = false := by
    rw [Bool.not_eq_true', ← Bool.not_eq_true, WriteSlot.all_enabled_iff len small]
    push Not
    simp only [ne_eq, Bool.not_eq_true]
  rw [WriteSlot.partialChunk, Bool.and_eq_true, WriteSlot.any_enabled_iff len small, notAll]

end

theorem BlockSize.chunks_le (sz : BlockSize) : sz.chunks ≤ 8 := by cases sz <;> decide

theorem BlockSize.chunks_pos (sz : BlockSize) : 0 < sz.chunks := by cases sz <;> decide

/-- R6: the access kind of a masked write. -/
theorem State.accessKind_masked {s : State} {e : Entry} {j : Fin 32} {w : WriteSlot} (masked : e.kind = .masked)
    (slot : e.writeSlot = some j) (held : s.adm.slots.get j = some w) :
    s.accessKind e = if ∃ k < e.size.chunks, w.partialChunk k = true then .merge else .write := by
  have here : s.writeSlotOf e = some w := by simp [State.writeSlotOf, slot, held]
  simp [State.accessKind, masked, here]

/-- Settles O13: the three issues that change a bank's record are the model's own updates; for an access, its kind, then
the list and the slots as the issue leaves them. -/
theorem issueEffects : Obligations.IssueEffects := by
  intro s b e rank
  refine ⟨fun short => ?opens, rfl, rfl, ⟨fun read => ?_, fun write => ?_, fun j w masked slot held len => ?_⟩,
    fun sorted mem => ⟨_, rfl, ?_⟩⟩
  case opens =>
    have history : (if s.port.history.length < 4 then s.port.history else s.port.history.tail) ++ [s.now] =
        (s.port.history ++ [s.now]).drop ((s.port.history ++ [s.now]).length - 4) := by
      split
      next room => rw [List.length_append, Nat.sub_eq_zero_of_le (by simp; omega), List.drop_zero]
      next full =>
        have four : s.port.history.length = 4 := by omega
        obtain ⟨a, l, hl⟩ := List.exists_cons_of_length_eq_add_one four
        simp [hl, show l.length = 3 by simpa [hl] using four]
    exact congrArg (fun h => ({ s with port :=
      { (s.issueOpen b e).port with history := h } } : State)) history
  · simp [State.accessKind, read]
  · simp [State.accessKind, write]
  · rw [State.accessKind_masked masked slot held]
    have small {k : Nat} (h : k < e.size.chunks) : k < 8 := h.trans_le e.size.chunks_le
    refine ⟨fun ⟨k, hk, partly⟩ => ?_, fun none => ?_⟩
    · rw [if_pos ⟨k, hk, (WriteSlot.partialChunk_iff len (small hk)).2 partly⟩]
    · rw [if_neg fun ⟨k, hk, h⟩ => none k hk ((WriteSlot.partialChunk_iff len (small hk)).1 h)]
  · dsimp only [State.issue]
    rw [State.issueAccess_eq b sorted mem]
    refine ⟨?port, ?list, ?slots, rfl⟩
    case port =>
      dsimp only [State.bankAfterAccess]
      cases s.accessKind e <;> rfl
    case list =>
      refine List.map_congr_left fun x _ => ?_
      unfold State.aged
      by_cases own : x.id = e.id
      · rw [if_pos own, if_pos own]
        rfl
      · by_cases older : x.id < e.id <;> simp [own, older]
    case slots => rfl

end Sys2Proof.Machine
end

section
/-! PROOFS. The pending list (sections 4.1, 4.2): what a conflict is, the youngest conflicting entry, the links of a list
under changes that keep them and under entries that leave, and with them what every step keeps of the list. -/

namespace Sys2Proof.Machine

/-! ### conflicts (R60) -/

/-- R60: blocks of one page that share a chunk, one of them a write's. -/
theorem Entry.conflicts_iff (a b : Entry) : a.conflicts b = true ↔ a.bank = b.bank ∧ a.page = b.page ∧
    (∃ n, a.first ≤ n ∧ n < a.first + a.size.chunks ∧ b.first ≤ n ∧ n < b.first + b.size.chunks) ∧
    (a.kind ≠ .read ∨ b.kind ≠ .read) := by
  have shared : (∃ n, a.first ≤ n ∧ n < a.first + a.size.chunks ∧ b.first ≤ n ∧ n < b.first + b.size.chunks) ↔
      a.first < b.first + b.size.chunks ∧ b.first < a.first + a.size.chunks := by
    have := a.size.chunks_pos
    have := b.size.chunks_pos
    constructor
    · rintro ⟨n, _, _, _, _⟩
      omega
    · intro h
      exact ⟨max a.first b.first, by omega, by omega, by omega, by omega⟩
  simp only [shared, Entry.conflicts, Bool.and_eq_true, Bool.or_eq_true, decide_eq_true_eq, and_assoc]

/-- What conflicts read of an entry: its number and its block, with the rest blanked. -/
def Entry.block (e : Entry) : Entry :=
  { e with
    requester := 0, tag := 0, tagHeld := false, lead := none, returnOrder := .linear, priority := .normal
    policy := .keepOpen, writeSlot := none, respSlot := none, blockedBy := none, bypass := 0, overdue := false
    state := .waiting }

/-- An entry without its link. -/
def Entry.unlinked (e : Entry) : Entry := { e with blockedBy := none }

@[simp] theorem Entry.block_conflicts (a b : Entry) : a.block.conflicts b.block = a.conflicts b := rfl
@[simp] theorem Entry.block_id (e : Entry) : e.block.id = e.id := rfl
@[simp] theorem Entry.unlinked_id (e : Entry) : e.unlinked.id = e.id := rfl
/-! ### the youngest conflicting entry (R60) -/

section
variable {older : List Entry} {e : Entry}

theorem youngestConflict_eq_some {x : Nat} (h : youngestConflict older e = some x) :
    ∃ before o after, older = before ++ o :: after ∧ o.id = x ∧ o.conflicts e = true ∧
      ∀ y ∈ after, y.conflicts e = false := by
  obtain ⟨o, ho, rfl⟩ := Option.map_eq_some_iff.1 h
  induction older using List.reverseRecOn with
  | nil => cases ho
  | append_singleton older a ih =>
    rw [List.filter_append] at ho
    by_cases ha : a.conflicts e = true
    · have last : [a].filter (fun o => o.conflicts e) = [a] := by simp [ha]
      rw [last, List.getLast?_concat] at ho
      cases ho
      exact ⟨older, o, [], rfl, rfl, ha, by simp⟩
    · have none : [a].filter (fun o => o.conflicts e) = [] := by simp [ha]
      rw [none, List.append_nil] at ho
      obtain ⟨before, o', after, rfl, he, hc, ha'⟩ := ih ho (by rw [youngestConflict, ho]; rfl)
      refine ⟨before, o', after ++ [a], by simp, he, hc, fun y hy => ?_⟩
      rcases List.mem_append.1 hy with hy | hy
      · exact ha' y hy
      · rw [List.mem_singleton.1 hy]
        exact Bool.not_eq_true _ ▸ ha

theorem youngestConflict_eq_none : youngestConflict older e = none ↔ ∀ y ∈ older, y.conflicts e = false := by
  simp [youngestConflict]

/-- The youngest conflicting entry is that of the numbers and blocks alone. -/
theorem youngestConflict_block : youngestConflict (older.map Entry.block) e.block = youngestConflict older e := by
  have same : (fun o => o.conflicts e.block) ∘ Entry.block = fun o => o.conflicts e := rfl
  rw [youngestConflict, List.filter_map, same, List.getLast?_map, Option.map_map]
  rfl

theorem youngestConflict_congr {older' : List Entry} {e' : Entry} (list : older'.map Entry.block = older.map Entry.block)
    (entry : e'.block = e.block) : youngestConflict older' e' = youngestConflict older e := by
  rw [← youngestConflict_block, list, entry, youngestConflict_block]

/-- The youngest conflicting entry stays so where others leave. -/
theorem youngestConflict_filter {p : Entry → Bool}
    (stays : ∀ o ∈ older, youngestConflict older e = some o.id → p o = true) (some_ : youngestConflict older e ≠ none) :
    youngestConflict (older.filter p) e = youngestConflict older e := by
  obtain ⟨x, hx⟩ := Option.ne_none_iff_exists'.1 some_
  obtain ⟨o, ho, rfl⟩ := Option.map_eq_some_iff.1 hx
  have mem : o ∈ older := List.mem_of_mem_filter (List.mem_of_getLast? ho)
  obtain ⟨init, hinit⟩ := List.getLast?_eq_some_iff.1 ho
  have swap : (older.filter p).filter (fun o => o.conflicts e) = (older.filter fun o => o.conflicts e).filter p := by
    simp only [List.filter_filter, Bool.and_comm]
  rw [hx, youngestConflict, swap, hinit, List.filter_append, List.filter_cons_of_pos (stays o mem hx)]
  simp

end

/-! ### links (R71) -/

/-- Every entry's blocked-by names the youngest older entry that conflicts with it. -/
def Links : List Entry → List Entry → Prop
  | _, [] => True
  | older, e :: es => e.blockedBy = youngestConflict older e ∧ Links (older ++ [e]) es

/-- An ISSUED entry is not blocked (R72). -/
def Entry.Free (e : Entry) : Prop := e.state = .issued → e.blockedBy = none

theorem Entry.free_iff (e : Entry) : e.Free ↔ e.state = .waiting ∨ e.blockedBy = none := by
  unfold Entry.Free
  cases e.state <;> simp

theorem linkedFrom_iff {older l : List Entry} : linkedFrom older l = true ↔ Links older l ∧ ∀ e ∈ l, e.Free := by
  induction l generalizing older with
  | nil => simp [linkedFrom, Links]
  | cons e es ih =>
    simp only [linkedFrom, Links, Bool.and_eq_true, Bool.or_eq_true, decide_eq_true_eq, Option.isNone_iff_eq_none, ih,
      List.forall_mem_cons, Entry.free_iff]
    tauto

/-- A list in age order: at most 64 entries whose `id`s rise to below `n`, each linked. -/
structure InOrder (n : Nat) (l : List Entry) : Prop where
  length : l.length ≤ 64
  sorted : l.Pairwise fun a b => a.id < b.id
  fresh : ∀ e ∈ l, e.id < n
  links : Links [] l
  free : ∀ e ∈ l, e.Free

theorem Sched.ok_iff {q : Sched} : q.Ok ↔ InOrder q.nextId q.list := by
  unfold Sched.Ok
  rw [linkedFrom_iff]
  exact ⟨fun ⟨h1, h2, h3, h4, h5⟩ => ⟨h1, h2, h3, h4, h5⟩, fun ⟨h1, h2, h3, h4, h5⟩ => ⟨h1, h2, h3, h4, h5⟩⟩

/-- What the links of a list read of an entry. -/
def Entry.linked (e : Entry) : Entry := { e.block with blockedBy := e.blockedBy }

theorem Entry.block_of_linked {e e' : Entry} (h : e'.linked = e.linked) : e'.block = e.block := by
  have := congrArg Entry.block h
  exact this

theorem Entry.blockedBy_of_linked {e e' : Entry} (h : e'.linked = e.linked) : e'.blockedBy = e.blockedBy := by
  have := congrArg Entry.blockedBy h
  exact this

theorem Entry.block_of_unlinked {e e' : Entry} (h : e'.unlinked = e.unlinked) : e'.block = e.block := by
  have := congrArg Entry.block h
  exact this

theorem Links.congr {older older' l l' : List Entry} (h : Links older l)
    (same : older'.map Entry.block = older.map Entry.block) (list : l'.map Entry.linked = l.map Entry.linked) :
    Links older' l' := by
  induction l generalizing older older' l' with
  | nil =>
    rw [List.map_nil, List.map_eq_nil_iff] at list
    subst list
    trivial
  | cons e es ih =>
    obtain ⟨e', es', rfl, he, hes⟩ := List.map_eq_cons_iff.1 list
    have block := Entry.block_of_linked he
    refine ⟨?_, ih h.2 ?_ hes⟩
    · rw [youngestConflict_congr same block, ← h.1]
      exact Entry.blockedBy_of_linked he
    · simp [same, block]

theorem links_append {older l : List Entry} {e : Entry} :
    Links older (l ++ [e]) ↔ Links older l ∧ e.blockedBy = youngestConflict (older ++ l) e := by
  induction l generalizing older with
  | nil => simp [Links]
  | cons x xs ih => simp [Links, ih, and_assoc]

/-- An entry of a linked list with what stands before it. -/
theorem Links.split {older before : List Entry} {e : Entry} {after : List Entry}
    (h : Links older (before ++ e :: after)) : e.blockedBy = youngestConflict (older ++ before) e := by
  induction before generalizing older with
  | nil => simpa using h.1
  | cons x xs ih => simpa using ih h.2

/-- Changes that keep every entry's number, block and link, and free the entries they issue. -/
theorem InOrder.congr {n : Nat} {l l' : List Entry} (h : InOrder n l) (list : l'.map Entry.linked = l.map Entry.linked)
    (free : ∀ e ∈ l', e.Free) : InOrder n l' := by
  have ids : l'.map Entry.id = l.map Entry.id := by
    have := congrArg (List.map Entry.id) list
    rw [List.map_map, List.map_map] at this
    exact this
  refine ⟨?_, ?_, ?_, h.links.congr rfl list, free⟩
  · have := congrArg List.length ids
    rw [List.length_map, List.length_map] at this
    exact this ▸ h.length
  · have := h.sorted
    rw [← List.pairwise_map (R := (· < ·)), ← ids, List.pairwise_map] at this
    exact this
  · intro e he
    obtain ⟨e', he', hid⟩ := List.mem_map.1 (ids ▸ List.mem_map_of_mem he)
    exact hid ▸ h.fresh e' he'

/-! ### entries that leave (R71) -/

theorem relinkFrom_unlinked (ids : List Nat) (older l : List Entry) :
    (relinkFrom ids older l).map Entry.unlinked = l.map Entry.unlinked := by
  induction l generalizing older with
  | nil => rfl
  | cons e es ih =>
    unfold relinkFrom
    dsimp only
    rw [List.map_cons, List.map_cons, ih]
    congr 1
    split
    · split <;> rfl
    · rfl

theorem relink_unlinked (l : List Entry) : (relink l).map Entry.unlinked = l.map Entry.unlinked :=
  relinkFrom_unlinked _ _ l

/-- Relinking frees no entry and blocks none that was free. -/
theorem relinkFrom_free {ids : List Nat} {older l : List Entry} (h : ∀ e ∈ l, e.Free) :
    ∀ e ∈ relinkFrom ids older l, e.Free := by
  induction l generalizing older with
  | nil => simp [relinkFrom]
  | cons e es ih =>
    rw [List.forall_mem_cons] at h
    unfold relinkFrom
    dsimp only
    rw [List.forall_mem_cons]
    refine ⟨?_, ih h.2⟩
    split
    next x hx =>
      split
      · exact h.1
      · exact fun issued => absurd (h.1 issued) (by simp [hx])
    next => exact h.1

/-- The entries that stay are linked again, where their `id`s are the ones that stay. -/
theorem links_relinkFrom {p : Entry → Bool} {ids : List Nat} {older older' l : List Entry} (h : Links older l)
    (same : older'.map Entry.block = (older.filter p).map Entry.block)
    (stays : ∀ o ∈ older ++ l, o.id ∈ ids ↔ p o = true) : Links older' (relinkFrom ids older' (l.filter p)) := by
  induction l generalizing older older' with
  | nil => trivial
  | cons e es ih =>
    obtain ⟨link, rest⟩ := h
    have tail : ∀ o ∈ (older ++ [e]) ++ es, o.id ∈ ids ↔ p o = true := by simpa using stays
    by_cases he : p e = true
    · have head : ∀ e', e'.unlinked = e.unlinked → e'.blockedBy = youngestConflict (older.filter p) e →
          Links older' (e' :: relinkFrom ids (older' ++ [e']) (es.filter p)) := by
        intro e' shape blocked
        have block := Entry.block_of_unlinked shape
        refine ⟨blocked.trans (youngestConflict_congr same block).symm, ih rest ?_ tail⟩
        simp [same, block, List.filter_cons_of_pos he]
      rw [List.filter_cons_of_pos he]
      unfold relinkFrom
      dsimp only
      refine head _ ?_ ?_
      · split
        · split <;> rfl
        · rfl
      · split
        next x hx =>
          split
          next here =>
            rw [youngestConflict_filter ?_ (by rw [← link, hx]; simp), ← link]
            intro o ho named
            refine (stays o (List.mem_append_left _ ho)).1 ?_
            rw [← link, hx] at named
            cases named
            exact here
          next => exact youngestConflict_congr same rfl
        next hx =>
          rw [hx]
          have none := youngestConflict_eq_none.1 (link.symm.trans hx)
          exact (youngestConflict_eq_none.2 fun y hy => none y (List.mem_of_mem_filter hy)).symm
    · rw [List.filter_cons_of_neg he]
      exact ih rest (by simp [same, List.filter_cons_of_neg he]) tail

/-- The `id`s of a list in age order tell its entries apart. -/
theorem eq_of_id_eq {l : List Entry} (sorted : l.Pairwise fun a b => a.id < b.id) {a b : Entry} (ha : a ∈ l) (hb : b ∈ l)
    (h : a.id = b.id) : a = b := by
  induction l with
  | nil => cases ha
  | cons x xs ih =>
    rw [List.pairwise_cons] at sorted
    rcases List.mem_cons.1 ha with rfl | ha'
    · rcases List.mem_cons.1 hb with rfl | hb'
      · rfl
      · exact absurd h (sorted.1 _ hb').ne
    · rcases List.mem_cons.1 hb with rfl | hb'
      · exact absurd h (sorted.1 _ ha').ne'
      · exact ih sorted.2 ha' hb'

/-- R68, R71: what is left of a list in age order is one, relinked. -/
theorem InOrder.relink_filter {n : Nat} {l : List Entry} (h : InOrder n l) (p : Entry → Bool) :
    InOrder n (relink (l.filter p)) := by
  have ids : (relink (l.filter p)).map Entry.id = (l.filter p).map Entry.id := by
    have := congrArg (List.map Entry.id) (relink_unlinked (l.filter p))
    rwa [List.map_map, List.map_map] at this
  have length : (relink (l.filter p)).length = (l.filter p).length := by simpa using congrArg List.length ids
  refine ⟨?_, ?_, ?_, ?_, ?_⟩
  · exact length ▸ (List.length_filter_le _ _).trans h.length
  · have := h.sorted.filter p
    rw [← List.pairwise_map (R := (· < ·)), ← ids, List.pairwise_map] at this
    exact this
  · intro e he
    obtain ⟨e', he', hid⟩ := List.mem_map.1 (ids ▸ List.mem_map_of_mem he)
    exact hid ▸ h.fresh e' (List.mem_of_mem_filter he')
  · refine links_relinkFrom h.links rfl fun o ho => ?_
    have ho : o ∈ l := by simpa using ho
    constructor
    · intro hid
      obtain ⟨o', ho', e⟩ := List.mem_map.1 hid
      rw [List.mem_filter] at ho'
      exact eq_of_id_eq h.sorted ho'.1 ho e ▸ ho'.2
    · exact fun hp => List.mem_map_of_mem (List.mem_filter.2 ⟨ho, hp⟩)
  · exact relinkFrom_free fun e he => h.free e (List.mem_of_mem_filter he)

/-- R91: the entries that remain at session loss. -/
theorem InOrder.sessionList {n : Nat} {l : List Entry} (h : InOrder n l) : InOrder n (sessionList l) := by
  have dropped : InOrder n (l.map fun e => { e with tagHeld := false }) := by
    refine h.congr ?_ ?_
    · rw [List.map_map]
      rfl
    · intro e he
      obtain ⟨e', he', rfl⟩ := List.mem_map.1 he
      exact h.free e' he'
  have swap : (l.filter fun e => e.state = .issued).map (fun e => { e with tagHeld := false }) =
      (l.map fun e => { e with tagHeld := false }).filter fun e => e.state = .issued := by
    rw [List.filter_map]
    rfl
  rw [Machine.sessionList, swap]
  exact dropped.relink_filter _

/-! ### admission checks (R50) -/

theorem State.admissionChecks_ok {s : State} {k : ReqKind} {body : List Byte} {q : DataReq} {w : Window}
    (h : s.admissionChecks k body = .ok (q, w)) :
    s.partCheck = none ∧ parseReq k body = some q ∧ s.tableChecks k q = .ok w := by
  unfold State.admissionChecks at h
  split at h
  next => cases h
  next part =>
    split at h
    next => cases h
    next q' form =>
      split at h
      next => cases h
      next w' checks =>
        cases h
        exact ⟨part, form, checks⟩

/-- R50: what checks 3 to 9 find of a request that passes. -/
structure State.Fits (s : State) (k : ReqKind) (q : DataReq) (w : Window) : Prop where
  enabled : (s.reqEntry q.requester).enabled = true
  window : s.lookup (blockStart k q) q.size.bytes = some w
  access : (w.accessSet k).getLsbD q.requester.val = true
  tag : q.tag ∉ s.adm.tags.get q.requester
  quota : s.detached k q.requester = true ∨
    (s.adm.tags.get q.requester).length < (s.reqEntry q.requester).quota
  space : s.sched.list.length < 64
  slot : k = .read ∨ 0 < s.freeWriteSlots

theorem State.tableChecks_ok {s : State} {k : ReqKind} {q : DataReq} {w : Window} :
    s.tableChecks k q = .ok w ↔ s.Fits k q w := by
  unfold State.tableChecks
  constructor
  · intro h
    split at h
    next => cases h
    next enabled =>
      split at h
      next => cases h
      next w' window =>
        split at h
        next => cases h
        next access =>
          split at h
          next => cases h
          next tag =>
            split at h
            next => cases h
            next quota =>
              split at h
              next => cases h
              next space =>
                split at h
                next => cases h
                next slot =>
                  cases h
                  refine ⟨by simpa using enabled, window, by simpa using access, tag, ?_, by omega, ?_⟩
                  · simp only [Bool.and_eq_true, Bool.not_eq_true', decide_eq_true_eq, not_and, not_le] at quota
                    exact (Bool.eq_false_or_eq_true _).imp_right quota
                  · by_cases read : k = .read
                    · exact .inl read
                    · exact .inr (Nat.pos_of_ne_zero fun e => slot ⟨read, e⟩)
  · rintro ⟨enabled, window, access, tag, quota, space, slot⟩
    have quota : ¬(!s.detached k q.requester &&
        decide ((s.reqEntry q.requester).quota ≤ (s.adm.tags.get q.requester).length)) = true := by
      rcases quota with d | below
      · simp [d]
      · simp [below]
    have slot : ¬(k ≠ .read ∧ s.freeWriteSlots = 0) := by
      rintro ⟨write, none⟩
      rcases slot with read | some
      · exact write read
      · omega
    rw [if_neg (by simp [enabled]), window]
    dsimp only
    rw [if_neg (by rw [access]; simp), if_neg tag, if_neg quota, if_neg (by omega), if_neg slot]

/-! ### every step -/

/-- R60: an admitted request's entry joins the list at the young end. -/
theorem InOrder.append {n : Nat} {l : List Entry} (h : InOrder n l) {e : Entry} (id : e.id = n) (room : l.length < 64)
    (link : e.blockedBy = youngestConflict l e) (waiting : e.state = .waiting) : InOrder (n + 1) (l ++ [e]) := by
  refine ⟨by simpa using room, ?_, ?_, links_append.2 ⟨h.links, by simpa using link⟩, ?_⟩
  · exact List.pairwise_append.2 ⟨h.sorted, by simp, fun a ha b hb => by
      rw [List.mem_singleton.1 hb, id]
      exact h.fresh a ha⟩
  · intro x hx
    rcases List.mem_append.1 hx with hx | hx
    · exact (h.fresh x hx).trans (Nat.lt_succ_self n)
    · rw [List.mem_singleton.1 hx, id]
      exact Nat.lt_succ_self n
  · intro x hx
    rcases List.mem_append.1 hx with hx | hx
    · exact h.free x hx
    · rw [List.mem_singleton.1 hx]
      exact fun issued => by rw [waiting] at issued; cases issued

section
variable {s : State}

/-- The list after the issue of an access: every entry keeps its number, block and link, and only the entry's own state
changes. -/
theorem InOrder.access {n : Nat} (h : InOrder n s.sched.list) {e : Entry} (mem : e ∈ s.sched.list)
    (free : e.blockedBy = none) : InOrder n (s.listAfterAccess e) := by
  have aged (x : Entry) : (s.aged x).linked = x.linked ∧ (x.Free → (s.aged x).Free) := by
    unfold State.aged
    split
    · exact ⟨rfl, fun f => f⟩
    · exact ⟨rfl, fun f => f⟩
  refine h.congr ?_ ?_
  · rw [State.listAfterAccess, List.map_map]
    refine List.map_congr_left fun x _ => ?_
    simp only [Function.comp_apply]
    split
    · rfl
    · split
      · exact (aged x).1
      · rfl
  · intro x hx
    obtain ⟨y, hy, rfl⟩ := List.mem_map.1 hx
    split
    next own =>
      rw [eq_of_id_eq h.sorted hy mem own]
      exact fun _ => free
    next =>
      split
      · exact (aged y).2 (h.free y hy)
      · exact h.free y hy

theorem State.issue_inOrder (h : InOrder s.sched.nextId s.sched.list) {c : Cand} (chosen : s.choice = some c) :
    InOrder (s.issue c).sched.nextId (s.issue c).sched.list := by
  cases op : c.op with
  | access e =>
    obtain ⟨mem, -, ready⟩ := State.choice_access chosen op
    have issue : s.issue c = s.issueAccess c.bank e := by simp only [State.issue, op]
    rw [issue, State.issueAccess_eq c.bank h.sorted mem]
    exact h.access mem ((s.ready_iff e).1 ready).2.1
  | openFor e =>
    simp only [State.issue, op]
    exact h
  | close =>
    simp only [State.issue, op]
    exact h
  | renew =>
    simp only [State.issue, op]
    exact h

end

/-- Every operation keeps the pending list in order. -/
theorem kept_inOrder : Kept fun s => InOrder s.sched.nextId s.sched.list where
  link _ _ h := h
  lane _ _ h := h
  pin _ _ h := h
  clock _ _ h := h
  draws _ _ h := h
  replyHold _ _ h := h
  cancelHold _ _ h := h
  idle _ _ h := h
  mgmt _ _ _ _ _ h := h
  setStaged _ _ _ _ h := h
  discard _ h := h
  setCommit _ _ _ h := h
  commitHalt _ h := h
  drainHalt _ h := h
  withdrawDrainHalt s h := by rw [State.withdrawDrainHalt_frame]; exact h
  commitPoint s _ h := by
    have sched : s.commitPoint.sched = s.applyCommit.sched := by rw [State.commitPoint_frame]
    show InOrder s.commitPoint.sched.nextId s.commitPoint.sched.list
    rw [sched]
    refine h.congr ?_ fun e he => ?_
    · rw [State.applyCommit, List.map_map]
      refine List.map_congr_left fun e _ => ?_
      simp only [Function.comp_apply, promote]
      split <;> rfl
    · obtain ⟨x, hx, rfl⟩ := List.mem_map.1 he
      have := h.free x hx
      unfold promote
      split <;> exact this
  halted _ _ _ h := h
  holdReq _ _ h := h
  hold s _ h := by rw [State.issueHold_frame]; exact h
  wake s h := by rw [State.wake_frame]; exact h
  issue s c chosen h := State.issue_inOrder h chosen
  lose s h := by
    simp only [State.loseSession, State.report_sched]
    exact h.sessionList
  restart s _ := by
    rw [State.resetPart, State.endReset_frame]
    exact ⟨by simp [State.beginReset, Sched.reset], .nil, by simp [State.beginReset, Sched.reset], trivial,
      by simp [State.beginReset, Sched.reset]⟩
  admits s k body q w checks h := by
    have fits := State.tableChecks_ok.1 (State.admissionChecks_ok checks).2.2
    rw [State.admitRequest_frame]
    exact h.append rfl fits.space (youngestConflict_congr rfl rfl) rfl
  cancel s e _ _ _ h := by
    have : InOrder s.sched.nextId (relink (s.sched.list.filter fun o => o.id ≠ e.id)) := h.relink_filter _
    simpa [State.removeEntry, State.setList] using this
  release s r p _ _ _ h := by rw [State.releasePlace_frame]; exact h
  tInit s _ h := by rw [State.leaveIdleMode_frame]; exact h
  tExit s _ h := by rw [State.leaveIdleMode_frame]; exact h
  tOa _ _ _ h := h
  tDwell _ _ h := h
  tWrec _ _ h := h
  tClose _ _ _ h := h
  tRen _ _ _ h := h
  completeBank _ _ _ _ h := h
  tick s t _ h := by
    rw [State.tickRecords_frame]
    exact h
  lapses _ _ h := h

/-- Settles O54: the list stays in order under every operation; at a completion the entry leaves it. -/
theorem stepKeepsPendingList : Obligations.StepKeepsPendingList := by
  refine step_keeps (fun _ _ ok => ok) (fun _ _ ok => ok) fun c s t ok h => ?_
  rw [Sched.ok_iff] at *
  rcases exec_cases h with rfl | x | ⟨-, x⟩
  · exact ok
  · refine kept_inOrder.pinEffect x (fun _ => ?_) (fun kind _ => ?_) ok
    · exact ⟨by simp [State.beginReset, Sched.reset], .nil, by simp [State.beginReset, Sched.reset], trivial,
        by simp [State.beginReset, Sched.reset]⟩
    · rw [State.endReset_frame]
      exact ok
  · refine kept_inOrder.effect x (.inr fun s b e olds ups _ h => ?_) ok
    rw [State.accessEffect_frame]
    have : InOrder s.sched.nextId (relink (s.sched.list.filter fun o => o.id ≠ e.id)) := h.relink_filter _
    simpa [State.completeEntry, State.removeEntry, State.setList] using this

/-- Settles O22: conflicts and the youngest of them, then a list in order: its links name what blocks each entry, and are
kept where an entry leaves. -/
theorem hazardLinks : Obligations.HazardLinks := by
  refine ⟨Entry.conflicts_iff, fun _ _ _ => youngestConflict_eq_some, fun _ _ => youngestConflict_eq_none,
    fun q ok => ⟨fun older e younger hl quiet => ?_, fun x _ => ?_⟩⟩
  · rw [Sched.ok_iff] at ok
    have link : e.blockedBy = youngestConflict older e := by
      have links := ok.links
      rw [hl] at links
      simpa using links.split
    refine youngestConflict_eq_none.1 (link.symm.trans ?_)
    rcases quiet with issued | eligible
    · exact ok.free e (by rw [hl]; simp) issued
    · exact (e.eligible_iff.1 eligible).2
  · have left := (Sched.ok_iff.1 ok).relink_filter fun e => e.id ≠ x.id
    exact ⟨linkedFrom_iff.2 ⟨left.links, left.free⟩, relink_unlinked _⟩

end Sys2Proof.Machine
end

section
/-! PROOFS. The management unit stays within its bounds (O57): its record as a structure, the operations on it that the
blocks share, and then the commands. -/

namespace Sys2Proof.Machine

/-! ### the record and what changes it -/

/-- `Mgmt.Ok` with its parts named. -/
structure Mgmt.Bounds (m : Mgmt) : Prop where
  queue : m.queue.length ≤ 4
  replies : m.replies.length + m.owed ≤ 3
  notices : m.notices.length ≤ 16
  dropped : m.dropped ≤ 255
  counters : ∀ i, m.counters.get i ≤ 65535
  commit : m.commit.state = .none → m.commit.replyOwed = none ∧ m.commit.mapChange = false
  stage : m.part.stage.isSome ↔ m.part.state = .draining
  retain : m.part.retainOwed.isSome → m.part.state = .draining
  epoch : m.status.epoch < 65536
  differs : m.status.stagedDiffers = decide (m.staged ≠ m.active)

theorem Mgmt.ok_iff {m : Mgmt} : m.Ok ↔ m.Bounds :=
  ⟨fun ⟨h1, h2, h3, h4, h5, h6, h7, h8, h9, h10⟩ => ⟨h1, h2, h3, h4, h5, h6, h7, h8, h9, h10⟩,
    fun h => ⟨h.queue, h.replies, h.notices, h.dropped, h.counters, h.commit, h.stage, h.retain, h.epoch, h.differs⟩⟩

/-- The reply that the commit in progress owes (R155). -/
def CommitRecord.owes (c : CommitRecord) : Nat := match c.replyOwed with | some (.owed _) => 1 | _ => 0

/-- The reply that the drain in progress owes (R155). -/
def Part.owes (p : Part) : Nat := match p.retainOwed with | some _ => 1 | none => 0

theorem Mgmt.owed_eq (m : Mgmt) : m.owed = m.commit.owes + m.part.owes := rfl

theorem CommitRecord.owes_le (c : CommitRecord) : c.owes ≤ 1 := by unfold CommitRecord.owes; split <;> omega

theorem Part.owes_le (p : Part) : p.owes ≤ 1 := by unfold Part.owes; split <;> omega

section
variable {m : Mgmt}

/-- At most two replies are owed, so three may stand where none is formed. -/
theorem Mgmt.room (m : Mgmt) : m.owed ≤ 2 := by
  have := m.commit.owes_le
  have := m.part.owes_le
  rw [Mgmt.owed_eq]
  omega

/-- One more reply where none is formed yet. -/
theorem Mgmt.Bounds.answer (h : m.Bounds) (none : m.replies = []) (f : OutFrame) :
    Mgmt.Bounds { m with replies := m.replies ++ [f] } :=
  { h with
    replies := by
      have := m.room
      simp only [none, List.nil_append, List.length_singleton]
      show 1 + m.owed ≤ 3
      omega }

/-- The part state machine moves, with the owed reply of the drain kept. -/
theorem Mgmt.Bounds.setPart (h : m.Bounds) {p : Part} (stage : p.stage.isSome ↔ p.state = .draining)
    (retain : p.retainOwed.isSome → p.state = .draining) (owes : p.owes ≤ m.part.owes) :
    Mgmt.Bounds { m with part := p } :=
  { h with
    stage := stage
    retain := retain
    replies := by
      have := h.replies
      rw [Mgmt.owed_eq] at this ⊢
      show m.replies.length + (m.commit.owes + p.owes) ≤ 3
      omega }

/-- R173, R180: the part leaves STARTING or RESUMING for SERVING. -/
theorem Mgmt.Bounds.serve (h : m.Bounds) :
    Mgmt.Bounds { m with part :=
      { m.part with
        state := if m.part.state = .starting ∨ m.part.state = .resuming then .serving else m.part.state } } := by
  by_cases idle : m.part.state = .starting ∨ m.part.state = .resuming
  · have stage := h.stage
    have retain := h.retain
    refine h.setPart ?_ ?_ le_rfl
    all_goals rcases idle with e | e <;> simp_all
  · rw [if_neg idle]
    exact h

end

/-! ### reports -/

section
variable {s : State}

theorem State.count_bounds (h : s.mgmt.Bounds) (i : Fin 11) : (s.count i).mgmt.Bounds :=
  { h with
    counters := fun j => by
      by_cases e : j = i
      · subst e
        exact (congrArg (· ≤ 65535) (Table.get_set_same _ _ _)).mpr (min_le_left _ _)
      · exact (congrArg (· ≤ 65535) (Table.get_set_ne _ _ e)).mpr (h.counters j) }

theorem State.offerNotice_bounds (h : s.mgmt.Bounds) (r : Report) : (s.offerNotice r).mgmt.Bounds := by
  unfold State.offerNotice
  split
  · split
    next room => exact { h with notices := by simpa using room, dropped := Nat.zero_le _ }
    next =>
      have dropped : Mgmt.Bounds { s.mgmt with dropped := min 255 (s.mgmt.dropped + 1) } :=
        { h with dropped := min_le_left _ _ }
      exact State.count_bounds (s := { s with mgmt := _ }) dropped 10
  · exact h

theorem State.report_bounds (h : s.mgmt.Bounds) (r : Report) : (s.report r).mgmt.Bounds :=
  State.offerNotice_bounds (State.count_bounds h _) r

/-! ### the end of an event -/

theorem State.enterRun_bounds (h : s.mgmt.Bounds) : s.enterRun.mgmt.Bounds := h.serve

theorem State.afterWithdrawal_bounds (h : s.mgmt.Bounds) : s.afterWithdrawal.mgmt.Bounds := by
  unfold State.afterWithdrawal
  split
  · exact State.enterRun_bounds h
  · exact h

theorem State.withdrawDrainHalt_bounds (h : s.mgmt.Bounds) : s.withdrawDrainHalt.mgmt.Bounds := by
  unfold State.withdrawDrainHalt
  split
  · exact State.afterWithdrawal_bounds (s := { s with port := _ }) h
  · exact h

theorem State.withdrawCommitHalt_bounds (h : s.mgmt.Bounds) : s.withdrawCommitHalt.mgmt.Bounds := by
  unfold State.withdrawCommitHalt
  split
  · exact State.afterWithdrawal_bounds (s := { s with port := _ }) h
  · exact h

theorem State.leaveIdleMode_bounds (h : s.mgmt.Bounds) : s.leaveIdleMode.mgmt.Bounds := by
  unfold State.leaveIdleMode
  dsimp only
  split
  · exact h
  · exact State.enterRun_bounds (s := s.startTick) h

/-- Withdrawing a halt request changes the part's state alone in the management unit. -/
theorem State.afterWithdrawal_mgmt (s : State) :
    ∃ st, s.afterWithdrawal.mgmt = { s.mgmt with part := { s.mgmt.part with state := st } } := by
  unfold State.afterWithdrawal
  split <;> exact ⟨_, rfl⟩

theorem State.withdrawCommitHalt_mgmt (s : State) :
    ∃ st, s.withdrawCommitHalt.mgmt = { s.mgmt with part := { s.mgmt.part with state := st } } := by
  unfold State.withdrawCommitHalt
  split
  · exact State.afterWithdrawal_mgmt { s with port := _ }
  · exact ⟨_, rfl⟩

theorem State.withdrawDrainHalt_mgmt (s : State) :
    ∃ st, s.withdrawDrainHalt.mgmt = { s.mgmt with part := { s.mgmt.part with state := st } } := by
  unfold State.withdrawDrainHalt
  split
  · exact State.afterWithdrawal_mgmt { s with port := _ }
  · exact ⟨_, rfl⟩

theorem State.commitReply_bounds (h : s.mgmt.Bounds) {c : CommitRecord}
    (room : s.mgmt.replies.length + s.mgmt.owed + c.owes ≤ 3) : (s.commitReply c.replyOwed).mgmt.Bounds := by
  unfold State.commitReply
  unfold CommitRecord.owes at room
  split
  next e owed =>
    rw [owed] at room
    exact { h with
      replies := by
        show (s.mgmt.replies ++ [_]).length + s.mgmt.owed ≤ 3
        rw [List.length_append, List.length_singleton]
        dsimp only at room
        omega }
  next => exact h

/-- R164: the reply owed by the commit record leaves it and joins the reply list; the rest of the record is not read. -/
theorem State.commitPoint_bounds (h : Mgmt.Bounds { s.mgmt with commit := CommitRecord.reset })
    (room : s.mgmt.replies.length + s.mgmt.owed ≤ 3) : s.commitPoint.mgmt.Bounds := by
  rw [Mgmt.owed_eq] at room
  have point : s.mgmt.atCommit.Bounds :=
    { h with
      epoch := Nat.mod_lt _ (by decide)
      differs := by simp [Mgmt.atCommit] }
  refine State.commitReply_bounds
    (State.withdrawCommitHalt_bounds (s := { s.applyCommit with mgmt := s.mgmt.atCommit }) point) ?_
  obtain ⟨st, same⟩ := State.withdrawCommitHalt_mgmt { s.applyCommit with mgmt := s.mgmt.atCommit }
  rw [same, Mgmt.owed_eq]
  show s.mgmt.replies.length + (0 + s.mgmt.part.owes) + s.mgmt.commit.owes ≤ 3
  omega

/-- The commit in progress is dropped from the record. -/
theorem Mgmt.Bounds.noCommit {m : Mgmt} (h : m.Bounds) : Mgmt.Bounds { m with commit := CommitRecord.reset } :=
  { h with
    commit := fun _ => ⟨rfl, rfl⟩
    replies := by
      have := h.replies
      rw [Mgmt.owed_eq] at this ⊢
      show m.replies.length + (0 + m.part.owes) ≤ 3
      omega }

/-- R177: the reply owed to an ENTER-RETAIN leaves the part record and joins the reply list. -/
theorem State.enterRetained_bounds (h : s.mgmt.Bounds) : s.enterRetained.mgmt.Bounds := by
  have room := h.replies
  rw [Mgmt.owed_eq] at room
  unfold State.enterRetained Part.owes at *
  dsimp only at *
  split
  next e owed =>
    rw [owed] at room
    exact { h with
      stage := by simp [State.setPart]
      retain := by simp [State.setPart]
      replies := by
        rw [Mgmt.owed_eq]
        show (s.mgmt.replies ++ [_]).length + (s.mgmt.commit.owes + 0) ≤ 3
        rw [List.length_append, List.length_singleton]
        dsimp only at room
        omega }
  next owed => exact h.setPart (by simp) (by simp) (by simp [Part.owes, owed])

theorem State.issueHold_bounds (h : s.mgmt.Bounds) : s.issueHold.mgmt.Bounds := State.enterRetained_bounds h

theorem State.advance_bounds (h : s.mgmt.Bounds) : s.advance.mgmt.Bounds := by
  have list (s : State) (h : s.mgmt.Bounds) : s.listEmptyTest.mgmt.Bounds := by
    have drain (s : State) (h : s.mgmt.Bounds) :
        (if s.mgmt.part.state = .draining ∧ s.mgmt.part.stage = some .list then
          (s.setPart { s.mgmt.part with stage := some .halt }).requestDrainHalt else s).mgmt.Bounds := by
      split
      next c => exact h.setPart (by simp [c.1]) h.retain le_rfl
      next => exact h
    unfold State.listEmptyTest
    split
    · refine drain _ ?_
      split
      next waits => exact { h with commit := fun e => by cases e }
      next => exact h
    · exact h
  have halted (s : State) (h : s.mgmt.Bounds) : s.haltedTest.mgmt.Bounds := by
    unfold State.haltedTest
    split <;> exact h
  have commit (s : State) (h : s.mgmt.Bounds) : s.commitTest.mgmt.Bounds := by
    unfold State.commitTest
    split
    · exact State.commitPoint_bounds h.noCommit h.replies
    · exact h
  have request (s : State) (h : s.mgmt.Bounds) : s.holdRequestTest.mgmt.Bounds := by
    unfold State.holdRequestTest
    split
    next c => exact h.setPart (by simpa [c.2.1] using h.stage) h.retain le_rfl
    next => exact h
  have hold (s : State) (h : s.mgmt.Bounds) : s.holdTest.mgmt.Bounds := by
    unfold State.holdTest
    split
    · exact State.issueHold_bounds h
    · exact h
  exact hold _ (request _ (commit _ (halted _ (list s h))))

theorem State.settle_bounds (h : s.mgmt.Bounds) : s.settle.mgmt.Bounds := by
  rw [State.settle, gate_mgmt, State.startIdle]
  exact State.advance_bounds h

/-! ### session loss and reset -/

theorem Part.loseSession_ok {p : Part} (stage : p.stage.isSome ↔ p.state = .draining)
    (retain : p.retainOwed.isSome → p.state = .draining) :
    (p.loseSession.stage.isSome ↔ p.loseSession.state = .draining) ∧
      (p.loseSession.retainOwed.isSome → p.loseSession.state = .draining) := by
  unfold Part.loseSession
  split <;> simp_all

theorem State.loseSession_bounds (h : s.mgmt.Bounds) : s.loseSession.mgmt.Bounds := by
  have part := Part.loseSession_ok h.stage h.retain
  refine State.report_bounds ?_ _
  exact { h with
    queue := Nat.zero_le _
    replies := le_trans (by simpa [Mgmt.loseSession] using Mgmt.room _) (by decide : 2 ≤ 3)
    commit := fun idle => by
      have idle : s.mgmt.commit.state = .none := idle
      simpa [Mgmt.loseSession, idle] using h.commit idle
    stage := part.1
    retain := part.2 }

theorem Mgmt.reset_bounds {p : Part} (stage : p.stage.isSome ↔ p.state = .draining)
    (retain : p.retainOwed.isSome → p.state = .draining) : (Mgmt.reset p).Bounds where
  queue := Nat.zero_le _
  replies := le_trans (Nat.add_le_add_left (Mgmt.room _) 0) (by decide)
  notices := Nat.zero_le _
  dropped := Nat.zero_le _
  counters i := by simp [Mgmt.reset]
  commit _ := ⟨rfl, rfl⟩
  stage := stage
  retain := retain
  epoch := by simp [Mgmt.reset, CommitStatus.reset]
  differs := by simp [Mgmt.reset, CommitStatus.reset]

theorem State.endReset_bounds (h : s.mgmt.Bounds) (kind : StartKind) : (s.endReset kind).mgmt.Bounds := by
  have enter (t : State) (h : t.mgmt.Bounds) : (if t.laneSignal then t.enterTraining else t).mgmt.Bounds := by
    split <;> exact h
  unfold State.endReset
  dsimp only
  refine enter _ (State.report_bounds ?_ _)
  rw [State.startPort_frame]
  exact h.setPart (by simp) (by simp) (Nat.zero_le _)

theorem State.beginReset_bounds (h : s.mgmt.Bounds) : s.beginReset.mgmt.Bounds := Mgmt.reset_bounds h.stage h.retain

theorem keptByLink_bounds : KeptByLink fun s => s.mgmt.Bounds where
  link _ _ h := h
  clock _ _ h := h
  count _ i h := State.count_bounds h i
  report _ r h := State.report_bounds h r
  settle _ h := State.settle_bounds h
  lose _ h := State.loseSession_bounds h
  restart _ h := State.endReset_bounds (State.beginReset_bounds h) _

/-! ### commands -/

theorem State.takenFor_mgmt (s : State) (body : List Byte) (rest : List (List Byte)) :
    (s.takenFor body rest).mgmt = { s.mgmt with queue := rest } := by
  unfold State.takenFor
  rw [State.echoed_mgmt]
  rfl

theorem State.takenFor_bounds (h : s.mgmt.Bounds) {body : List Byte} {rest : List (List Byte)}
    (queue : s.mgmt.queue = body :: rest) : (s.takenFor body rest).mgmt.Bounds := by
  have four := h.queue
  rw [queue, List.length_cons] at four
  rw [State.takenFor_mgmt]
  exact { h with queue := by show rest.length ≤ 4; omega }

theorem State.reply_bounds (h : s.mgmt.Bounds) (none : s.mgmt.replies = []) (e : Echo) (st : MStatus) (v : List Byte) :
    (s.reply e st v).mgmt.Bounds := h.answer none _

/-- R163: an accepted commit owes its reply until the commit point. -/
theorem State.acceptCommit_bounds (h : s.mgmt.Bounds) (none : s.mgmt.replies = []) (e : Echo) :
    (s.acceptCommit e).mgmt.Bounds := by
  have room (c : CommitRecord) : (s.setCommit c).mgmt.replies.length + (s.setCommit c).mgmt.owed ≤ 3 :=
    le_trans (by simpa [State.setCommit, none] using Mgmt.room _) (by decide : 2 ≤ 3)
  have waits (c : CommitRecord) (ok : c.state ≠ .none) : (s.setCommit c).mgmt.Bounds :=
    { h with commit := fun idle => absurd idle ok, replies := room c }
  unfold State.acceptCommit
  dsimp only
  split
  · exact State.commitPoint_bounds h.noCommit (room _)
  · split
    · exact waits _ (by simp)
    · exact waits _ (by simp)

theorem State.doCommit_bounds (h : s.mgmt.Bounds) (none : s.mgmt.replies = []) (body : List Byte) (e : Echo) :
    (s.doCommit body e).mgmt.Bounds := by
  unfold State.doCommit
  split
  · exact State.reply_bounds h none _ _ _
  · split
    next ck i _ =>
      have rejected : Mgmt.Bounds { s.mgmt with
          status := { s.mgmt.status with lastResult := .invalid, check := ck, checkIndex := i } } := { h with }
      exact rejected.answer none _
    next => exact State.settle_bounds (State.acceptCommit_bounds h none e)

/-- R178, R179: leaving retention ends the drain, with the reply that the drain owes before the OK. -/
theorem State.endDrain_bounds (h : s.mgmt.Bounds) (none : s.mgmt.replies = []) (e : Echo) :
    (s.endDrain e).mgmt.Bounds := by
  have ends : s.port.mode.afterDrain ≠ .draining := by unfold PortMode.afterDrain; split <;> decide
  have left : Mgmt.Bounds { s.mgmt with part :=
      { s.mgmt.part with state := s.port.mode.afterDrain, stage := Option.none, retainOwed := Option.none } } :=
    h.setPart (by simpa using ends) (by simp) (Nat.zero_le _)
  let t : State :=
    { s with
      port := { s.port with holdReq := false }
      mgmt := { s.mgmt with part :=
        { s.mgmt.part with state := s.port.mode.afterDrain, stage := Option.none, retainOwed := Option.none } } }
  have after : t.withdrawDrainHalt.mgmt.Bounds := State.withdrawDrainHalt_bounds left
  have empty : t.withdrawDrainHalt.mgmt.replies = [] ∧ t.withdrawDrainHalt.mgmt.owed ≤ 1 := by
    obtain ⟨st, same⟩ := State.withdrawDrainHalt_mgmt t
    rw [same, Mgmt.owed_eq]
    exact ⟨none, s.mgmt.commit.owes_le⟩
  show ((t.withdrawDrainHalt.abandonReply s.mgmt.part.retainOwed).reply e .ok).mgmt.Bounds
  generalize t.withdrawDrainHalt = u at after empty
  cases s.mgmt.part.retainOwed with
  | none => exact State.reply_bounds after empty.1 _ _ _
  | some x =>
    exact { after with
      replies := by
        show ((u.mgmt.replies ++ [_]) ++ [_]).length + u.mgmt.owed ≤ 3
        simp only [empty.1, List.nil_append, List.length_append, List.length_singleton]
        omega }

theorem State.doLeaveRetain_bounds (h : s.mgmt.Bounds) (none : s.mgmt.replies = []) (body : List Byte) (e : Echo) :
    (s.doLeaveRetain body e).mgmt.Bounds := by
  unfold State.doLeaveRetain
  split
  next retained =>
    have stage := h.stage
    have retain := h.retain
    obtain ⟨st, same⟩ := State.withdrawDrainHalt_mgmt s
    have after := State.withdrawDrainHalt_bounds h
    rw [same] at after
    dsimp only
    rw [State.wake_frame]
    refine State.settle_bounds (State.reply_bounds ?_ (by rw [State.setPart, same]; exact none) _ _ _)
    simp only [State.setPart, same]
    exact after.setPart (by simpa [retained] using stage) (by simpa [retained] using retain) le_rfl
  · exact State.settle_bounds (State.endDrain_bounds h none e)
  all_goals exact State.reply_bounds h none _ _ _

/-- Executing a request that has passed the tests of R154, with no reply formed. -/
theorem Row.run_bounds (h : s.mgmt.Bounds) (none : s.mgmt.replies = []) (row : Row) (body : List Byte) (e : Echo) :
    (row.run s body e).mgmt.Bounds := by
  cases row
  case get =>
    simp only [Row.run, State.doGet]
    split <;> exact State.reply_bounds h none _ _ _
  case set =>
    simp only [Row.run, State.doSet]
    split
    next o _ =>
      have staged : (s.mgmt.setStaged (s.mgmt.staged.setValue o (valueOf body))).Bounds := { h with differs := rfl }
      exact staged.answer none (.manageReply e .ok .none 0 [])
    next => exact State.reply_bounds h none _ _ _
  case setNotice =>
    have taken : Mgmt.Bounds { s.mgmt with notice := (parseNoticeSettings (valueOf body)).getD s.mgmt.notice } :=
      { h with }
    exact taken.answer none (.manageReply e .ok .none 0 [])
  case commit => exact State.doCommit_bounds h none body e
  case discard =>
    have restored : Mgmt.Bounds
        { s.mgmt with staged := s.mgmt.active, status := { s.mgmt.status with stagedDiffers := false } } :=
      { h with differs := by simp }
    exact restored.answer none (.manageReply e .ok .none 0 [])
  case enterRetain =>
    simp only [Row.run, State.doEnterRetain]
    split
    · refine State.settle_bounds ?_
      exact { h with
        stage := by simp [State.setPart]
        retain := by simp [State.setPart]
        replies := le_trans (by simpa [State.setPart, none] using Mgmt.room _) (by decide : 2 ≤ 3) }
    all_goals exact State.reply_bounds h none _ _ _
  case leaveRetain => exact State.doLeaveRetain_bounds h none body e
  case resetPart =>
    simp only [Row.run, State.doResetPart]
    split
    · exact { h with }
    · exact keptByLink_bounds.restart s h
  case lapseClear => exact State.reply_bounds h none _ _ _
  case clear =>
    have cleared : Mgmt.Bounds { s.mgmt with counters := Table.fill 11 0 } :=
      { h with counters := fun i => by simp }
    exact cleared.answer none (.manageReply e .ok .none 0 [])
  case unknown => exact State.reply_bounds h none _ _ _

/-! ### completions and ticks: their reports -/

theorem State.readChunks_bounds (h : s.mgmt.Bounds) (e : Entry) (ups : List Upset) (ks : List Nat) :
    (s.readChunks e ups ks).2.mgmt.Bounds := by
  induction ks generalizing s with
  | nil => exact h
  | cons k ks ih =>
    refine ih ?_
    unfold State.readChunk
    dsimp only
    split <;> (try refine State.report_bounds ?_ _) <;> rw [State.orFree_frame, State.disturbChunk_frame] <;> exact h

theorem State.writeChunks_bounds (h : s.mgmt.Bounds) (e : Entry) (w : WriteSlot) (olds : List (Option Chunk))
    (ups : List Upset) (ks : List Nat) : (s.writeChunks e w olds ups ks).mgmt.Bounds := by
  have report (s : State) (k : Nat) (old : Chunk) (h : s.mgmt.Bounds) : (s.mergeReport e k old).mgmt.Bounds := by
    unfold State.mergeReport
    split
    · exact h
    all_goals exact State.report_bounds h _
  induction ks generalizing s with
  | nil => exact h
  | cons k ks ih =>
    refine ih ?_
    unfold State.writeChunk
    dsimp only
    split
    · exact h
    · split
      · refine report _ _ _ ?_
        rw [State.orFree_frame]
        exact h
      · exact h

theorem State.accessEffect_bounds (h : s.mgmt.Bounds) (e : Entry) (olds : List (Option Chunk)) (ups : List Upset) :
    (s.accessEffect e olds ups).mgmt.Bounds := by
  unfold State.accessEffect
  split
  · dsimp only
    rw [State.readDone_frame]
    exact State.readChunks_bounds h _ _ _
  · split
    · dsimp only
      rw [State.writeDone_frame]
      exact State.writeChunks_bounds h _ _ _ _ _
    · exact h

theorem State.tickRecords_bounds (h : s.mgmt.Bounds) : s.tickRecords.mgmt.Bounds := by
  have overruns (bs : List BankNo) : ∀ s : State, s.mgmt.Bounds → (bs.foldl State.overrun s).mgmt.Bounds := by
    induction bs with
    | nil => exact fun _ h => h
    | cons b bs ih => exact fun s h => ih _ (State.report_bounds (s := { s with array := s.array.decay b }) h _)
  exact overruns _ s h

/-! ### every command -/

theorem Selects.bounds {t : State} (x : Selects s t) (h : s.mgmt.Bounds) : t.mgmt.Bounds := by
  cases x
  case answer | offer | replay | ack | resend | replyHold | cancelHold | busy => exact { h with }
  case reply f fs _ _ hr =>
    have := h.replies
    rw [hr, List.length_cons] at this
    exact { h with replies := by show fs.length + s.mgmt.owed ≤ 3; omega }
  case notice n ns _ hn =>
    have := h.notices
    rw [hn, List.length_cons] at this
    exact { h with notices := by show ns.length ≤ 16; omega }
  case final r p f _ _ _ =>
    refine State.settle_bounds ?_
    rw [State.releasePlace_frame]
    exact h

theorem State.takeRequest_bounds (h : s.mgmt.Bounds) (k : ReqKind) (body : List Byte) :
    (s.takeRequest k body).mgmt.Bounds := by
  unfold State.takeRequest
  split
  · rw [State.refuse, State.echoed_mgmt]
    exact h
  · refine State.settle_bounds ?_
    rw [State.admitRequest_frame]
    exact h

theorem State.takeCancel_bounds (h : s.mgmt.Bounds) (body : List Byte) : (s.takeCancel body).mgmt.Bounds := by
  have answer (res : CancelResult) : (s.cancelReply body res).mgmt.Bounds := by
    rw [State.cancelReply, State.echoed_mgmt]
    exact h
  unfold State.takeCancel
  split
  · split
    · split
      · split
        · exact State.settle_bounds (by simpa using h)
        · exact answer _
      · exact answer _
    · exact answer _
  · exact answer _

theorem PinEffect.bounds {c : Instr} {t : State} (x : PinEffect s c t) (h : s.mgmt.Bounds) : t.mgmt.Bounds := by
  cases x
  case assert => exact State.beginReset_bounds h
  case release kind _ => exact State.endReset_bounds h kind
  case present | trains | lost | down => exact h
  case recovers => exact keptByLink_bounds.enterRecovery (s := { s with laneSignal := false }) _ h

theorem Effect.bounds {c : Instr} {t : State} (x : Effect s c t) (h : s.mgmt.Bounds) : t.mgmt.Bounds := by
  have K := keptByLink_bounds
  cases x
  case badCheck => exact K.count _ _ h
  case badCheckUp => exact K.askReplay (K.count _ _ h)
  case ackRange => exact K.enterRecovery _ h
  case ackCredit => exact K.takeAckCredit _ h
  case sequenced => exact K.takeSequenced _ (K.takeAckCredit _ h)
  case hostReplay => exact K.hostReplay _ (K.takeAckCredit _ h)
  case hostTrain => exact K.hostTrain _ h
  case ackTimer => exact K.ackExpires (K.reach _ h)
  case markTimer | offerTimer | stateTimer => exact h
  case holdTimer => exact K.holdExpires (K.reach _ h)
  case transmit x => exact K.resetIfTaken (x.bounds h)
  case admission => exact State.takeRequest_bounds (s := s.dropRx _) h _ _
  case cancel => exact State.takeCancel_bounds (s := s.dropRx _) h _
  case manage body room => exact { h with queue := by simpa [State.dropRx] using room }
  case manageBusy body =>
    show (s.busyReply body).mgmt.Bounds
    rw [State.busyReply, State.echoed_mgmt]
    exact { h with }
  case fails queue none =>
    exact State.reply_bounds (State.takenFor_bounds h queue) (by rw [State.takenFor_mgmt]; exact none) _ _ _
  case runs queue none _ _ _ =>
    exact Row.run_bounds (State.takenFor_bounds h queue) (by rw [State.takenFor_mgmt]; exact none) _ _ _
  case tInit | tExit =>
    refine State.settle_bounds (State.leaveIdleMode_bounds ?_)
    exact h
  case tOa | tDwell | tWrec | tClose | tRen | idleClose | interval | completesNone => exact State.settle_bounds h
  case completes b ups d kind e _ _ =>
    refine State.settle_bounds ?_
    have effect := State.accessEffect_bounds (s := (s.reach d).completeBank b kind) h e (s.bank b).oldChunks ups
    simpa [State.completeEntry] using effect
  case tick t _ => exact State.settle_bounds (State.tickRecords_bounds (s := s.reach t.at_) h)

end

/-- Settles O57: every operation that changes the management unit keeps its record within bounds, and a request is taken
only while no reply is formed. -/
theorem stepKeepsManagement : Obligations.StepKeepsManagement := by
  unfold Obligations.StepKeepsManagement
  refine step_keeps (P := fun s => s.mgmt.Ok) (fun _ _ h => h) (fun _ _ h => h) fun c s t h step => ?_
  have h := Mgmt.ok_iff.1 h
  refine Mgmt.ok_iff.2 ?_
  rcases exec_cases step with rfl | pin | ⟨-, effect⟩
  · exact h
  · exact pin.bounds h
  · exact effect.bounds h

end Sys2Proof.Machine
end

section
/-! PROOFS. The link controller stays well kept (O51): its record as a structure, the arithmetic of the replay ring, the
operations of the link, and then the commands. -/

namespace Sys2Proof.Machine

/-! ### sequence numbers and the replay ring -/

section
variable {l : Link}

/-- R142: the oldest frame once the `k` oldest have left. -/
theorem Link.oldest_drop (k : Nat) (le : k ≤ l.ring.length) :
    l.nextSeq - byteOf (l.ring.drop k).length = l.oldest + byteOf k := by
  simp only [Link.oldest, byteOf, List.length_drop]
  bv_omega

/-- R142: an ack in the window removes no more frames than the ring holds. -/
theorem Link.inWindow_iff {a : Byte} : l.inWindow a = true ↔ l.acked a ≤ l.ring.length := by
  rw [Link.inWindow, decide_eq_true_eq, Link.acked]

/-- R143: a frame that joins the ring leaves its oldest frame. -/
theorem Link.oldest_append (f : OutFrame) : l.nextSeq + 1 - byteOf (l.ring ++ [f]).length = l.oldest := by
  simp only [Link.oldest, byteOf, List.length_append, List.length_singleton]
  bv_omega

/-- The frame that becomes the oldest stands at place 0. -/
theorem oldest_place (n : Byte) : (n - n).toNat = 0 := by simp

/-- A number past the `k` that left stands `k` places lower. -/
theorem place_after (n o : Byte) {k : Nat} (past : k ≤ (n - o).toNat) : (n - (o + byteOf k)).toNat = (n - o).toNat - k := by
  simp only [byteOf]
  bv_omega

theorem place_next (n o : Byte) {len : Nat} (short : len ≤ 32) (next : (n - o).toNat + 1 < len) :
    (n + 1 - o).toNat = (n - o).toNat + 1 := by
  bv_omega

theorem nextSession_ne_zero (n : Byte) : nextSession n ≠ 0 := by
  unfold nextSession
  split
  · decide
  · bv_omega

end

/-! ### the record -/

/-- `Link.Ok` with its parts named. -/
structure Link.Good (l : Link) : Prop where
  rx : l.rx.length ≤ 8
  ring : l.ring.length ≤ 32
  resend : ∀ n, l.resend = some n → (n - l.oldest).toNat < l.ring.length
  mark : l.replayMark = none ∨ l.replayMark = some l.expect
  markTimer : l.markTimer.isSome ↔ l.replayMark.isSome
  up : l.state = .up → l.live = true ∧ l.expiries ≤ 3 ∧ l.holdTimer = none ∧ (l.ackTimer.isSome ↔ l.ring ≠ [])
  away : l.state ≠ .up → l.ackTimer = none ∧ l.markTimer = none ∧ l.resend = none ∧ l.expiries ≤ 4
  offerTimer : l.offerTimer.isSome ↔ l.state = .training ∨ l.state = .recovery
  stateTimer : l.stateTimer.isSome ↔ l.state = .training ∨ l.state = .recovery
  session : l.live = true → l.session ≠ 0

theorem Link.ok_iff {l : Link} : l.Ok ↔ l.Good :=
  ⟨fun ⟨⟨h1, h2, h3⟩, ⟨h4, h5⟩, ⟨h6, h7⟩, ⟨h8, h9⟩, h10⟩ => ⟨h1, h2, h3, h4, h5, h6, h7, h8, h9, h10⟩,
    fun h => ⟨⟨h.rx, h.ring, h.resend⟩, ⟨h.mark, h.markTimer⟩, ⟨h.up, h.away⟩, ⟨h.offerTimer, h.stateTimer⟩, h.session⟩⟩

/-- What entry into RECOVERY needs of the record. -/
structure Link.Leaves (l : Link) : Prop where
  rx : l.rx.length ≤ 8
  ring : l.ring.length ≤ 32
  expiries : l.expiries ≤ 4
  session : l.live = true → l.session ≠ 0

theorem Link.Good.leaves {l : Link} (h : l.Good) : l.Leaves where
  rx := h.rx
  ring := h.ring
  session := h.session
  expiries := by
    by_cases up : l.state = .up
    · have := (h.up up).2.1
      omega
    · exact (h.away up).2.2.2

theorem Link.good_reset : Link.reset.Good := by
  constructor <;> simp [Link.reset]

section
variable {l : Link}

/-- R150: the record at a session loss, out of UP. -/
theorem Link.Good.loseSession (h : l.Good) (away : l.state ≠ .up) : l.loseSession.Good where
  rx := Nat.zero_le _
  ring := Nat.zero_le _
  resend n e := by cases e
  mark := .inl rfl
  markTimer := by simp [Link.loseSession]
  up e := absurd e away
  away _ := ⟨rfl, rfl, rfl, Nat.zero_le _⟩
  offerTimer := h.offerTimer
  stateTimer := h.stateTimer
  session e := by cases e

/-- R132, R133: TRAINING or RECOVERY is left for DOWN. -/
theorem Link.Good.enterDown (h : l.Good) (away : l.state ≠ .up) :
    Link.Good { l with state := .down, offers := 0, offerTimer := none, stateTimer := none } :=
  { h with
    up := fun e => by cases e
    away := fun _ => h.away away
    offerTimer := by simp
    stateTimer := by simp }

/-- R132: DOWN is left for TRAINING. -/
theorem Link.Good.enterTraining (h : l.Good) (down : l.state = .down) (n o t : Nat) :
    Link.Good { l with state := .training, offers := n, offerTimer := some o, stateTimer := some t } :=
  { h with
    up := fun e => by cases e
    away := fun _ => h.away (by simp [down])
    offerTimer := by simp
    stateTimer := by simp }

/-- R133: UP is left for RECOVERY. -/
theorem Link.Leaves.enterRecovery (h : l.Leaves) (hold n o t : Nat) :
    Link.Good
      { l with
        state := .recovery, ackTimer := none, markTimer := none, resend := none, replayMark := none, replays := []
        updateOwed := false, holdTimer := some hold, offers := n, offerTimer := some o, stateTimer := some t } :=
  { h with
    resend := fun n e => by cases e
    mark := .inl rfl
    markTimer := by simp
    up := fun e => by cases e
    away := fun _ => ⟨rfl, rfl, rfl, h.expiries⟩
    offerTimer := by simp
    stateTimer := by simp }

/-- R142: the ring without its `k` oldest frames, with the resend point moved off a removed one. -/
theorem Link.resendAfter_place (h : l.Good) {k : Nat} (le : k ≤ l.ring.length) {n : Byte} (e : l.resendAfter k = some n) :
    (n - (l.oldest + byteOf k)).toNat < l.ring.length - k := by
  unfold Link.resendAfter at e
  split at e
  next r point =>
    have place := h.resend r point
    split at e
    next removed =>
      split at e
      next left =>
        cases e
        rw [oldest_place]
        omega
      next => cases e
    next stays =>
      cases e
      rw [place_after n l.oldest (by omega)]
      omega
  next => cases e

/-- R142: the ring in UP without its `k` oldest frames, where one or more have left. -/
theorem Link.Good.takeAck (h : l.Good) (up : l.state = .up) {k : Nat} (le : k ≤ l.ring.length) {timer : Option Nat}
    (runs : timer.isSome ↔ k < l.ring.length) (credit : Byte) :
    Link.Good
      { l with
        ring := l.ring.drop k, expiries := 0, resend := l.resendAfter k, ackTimer := timer, sendLimit := credit } :=
  { h with
    ring := by
      have := h.ring
      simp only [List.length_drop]
      omega
    resend := fun n e => by
      have := Link.resendAfter_place h le e
      show (n - (l.nextSeq - byteOf (l.ring.drop k).length)).toNat < (l.ring.drop k).length
      rwa [Link.oldest_drop k le, List.length_drop]
    up := fun _ => ⟨(h.up up).1, by simp, (h.up up).2.2.1, by
      rw [runs]
      simp [List.drop_eq_nil_iff]⟩
    away := fun e => absurd up e }

/-- R143: a new frame joins the ring in UP. -/
theorem Link.Good.takeNew (h : l.Good) (new : l.allowsNew = true) (f : OutFrame) (t : Nat) :
    Link.Good
      { l with
        ring := l.ring ++ [f], nextSeq := l.nextSeq + 1, updateOwed := false
        ackTimer := if l.ring = [] then some t else l.ackTimer } := by
  simp only [Link.allowsNew, Bool.and_eq_true, decide_eq_true_eq] at new
  obtain ⟨up, room⟩ := new
  exact { h with
    ring := by
      rw [List.length_append, List.length_singleton]
      omega
    resend := fun n e => by
      have := h.resend n e
      show (n - (l.nextSeq + 1 - byteOf (l.ring ++ [f]).length)).toNat < (l.ring ++ [f]).length
      rw [Link.oldest_append, List.length_append]
      omega
    up := fun _ => ⟨(h.up up).1, (h.up up).2.1, (h.up up).2.2.1, by
      have := (h.up up).2.2.2
      by_cases empty : l.ring = [] <;> simp_all⟩
    away := fun e => absurd up e }

/-- R135: the session is resumed, with an ack in the window. -/
theorem Link.Good.resume (h : l.Good) (live : l.live = true) {k : Nat} (le : k ≤ l.ring.length)
    (credit : Byte) (t : Nat) (as : List TrainAnswer) :
    Link.Good
      { l with
        ring := l.ring.drop k
        expiries := 0
        sendLimit := credit
        resend := if l.ring.drop k = [] then none else some (l.oldest + byteOf k)
        state := .up
        holdTimer := none
        offerTimer := none
        stateTimer := none
        offers := 0
        ackTimer := if l.ring.drop k = [] then none else some t
        answers := as } :=
  { h with
    ring := by
      have := h.ring
      simp only [List.length_drop]
      omega
    resend := fun n e => by
      show (n - (l.nextSeq - byteOf (l.ring.drop k).length)).toNat < (l.ring.drop k).length
      rw [Link.oldest_drop k le]
      by_cases empty : l.ring.drop k = []
      · simp [empty] at e
      · simp only [if_neg empty, Option.some.injEq] at e
        rw [← e, oldest_place]
        exact List.length_pos_iff.2 empty
    up := fun _ => ⟨live, by simp, rfl, by by_cases empty : l.ring.drop k = [] <;> simp [empty]⟩
    away := fun e => absurd rfl e
    offerTimer := by simp
    stateTimer := by simp }

/-- R136: the record of a new session, whatever stood before. -/
theorem Link.good_open (l : Link) {n : Byte} (n0 : n ≠ 0) (credit : Byte) (as : List TrainAnswer) :
    Link.Good
      { l with
        session := n, live := true, expect := 0, nextSeq := 0, ring := [], rx := [], resend := none, replayMark := none
        markTimer := none, ackTimer := none, expiries := 0, sendLimit := credit, state := .up, offerTimer := none
        stateTimer := none, holdTimer := none, offers := 0, answers := as } := by
  constructor <;> simp
  exact n0

end

/-! ### the operations of the link -/

/-- Out of reset, with a link controller that is well kept. -/
structure State.LinkRuns (s : State) : Prop where
  running : s.rst = none
  link : s.link.Good

namespace State.LinkRuns
variable {s : State}

theorem linkOk (h : s.LinkRuns) : s.LinkOk := ⟨Link.ok_iff.2 h.link, by simp [h.running]⟩

theorem report (h : s.LinkRuns) (r : Report) : (s.report r).LinkRuns := ⟨by simpa using h.running, by simpa using h.link⟩

theorem settle (h : s.LinkRuns) : s.settle.LinkRuns := ⟨by simpa using h.running, by simpa using h.link⟩

theorem setLink (h : s.LinkRuns) {l : Link} (link : l.Good) : (s.setLink l).LinkRuns := ⟨h.running, link⟩

theorem reach (h : s.LinkRuns) (d : Nat) : (s.reach d).LinkRuns := ⟨h.running, h.link⟩

theorem loseSession (h : s.LinkRuns) (away : s.link.state ≠ .up) : s.loseSession.LinkRuns :=
  ⟨by simpa using h.running, by simpa using h.link.loseSession away⟩

/-- R130, R172: a reset leaves the reset record, in TRAINING where the lane signal is present. -/
theorem endReset (s : State) (kind : StartKind) (h : s.link = Link.reset) : (s.endReset kind).LinkRuns := by
  unfold State.endReset
  dsimp only
  rw [State.startPort_frame]
  split
  · refine ⟨by simp [State.enterTraining], ?_⟩
    have := Link.good_reset.enterTraining rfl (Link.reset.offers + 1) (s.now + offerTime) (s.now + trainingTime)
    simpa [State.enterTraining, State.setPart, h] using this
  · refine ⟨by simp [State.setPart], ?_⟩
    simpa [State.setPart, h] using Link.good_reset

theorem resetPart (s : State) : s.resetPart.LinkRuns := endReset _ _ rfl

theorem resetIfTaken (h : s.LinkRuns) : s.resetIfTaken.LinkRuns := by
  unfold State.resetIfTaken
  split
  · exact resetPart s
  · exact h

/-- R149: out of UP the hold timer's end loses a live session. -/
theorem holdExpires (h : s.LinkRuns) (away : s.link.state ≠ .up) : s.holdExpires.LinkRuns := by
  have stopped : (s.setLink { s.link with holdTimer := none }).LinkRuns :=
    h.setLink { h.link with up := fun e => absurd e away }
  unfold State.holdExpires
  dsimp only
  split
  · exact (stopped.loseSession away).settle
  · exact stopped

theorem enterRecovery (running : s.rst = none) (h : s.link.Leaves) (cause : RecoveryCause) :
    (s.enterRecovery cause).LinkRuns := by
  have entered (n o t : Nat) (hold : Nat) : ((s.report (.linkRecovery cause)).setLink
      { (s.report (.linkRecovery cause)).link with
        state := .recovery, ackTimer := none, markTimer := none, resend := none, replayMark := none, replays := []
        updateOwed := false, holdTimer := some hold, offers := n, offerTimer := some o
        stateTimer := some t }).LinkRuns :=
    ⟨by simpa using running, by simpa using h.enterRecovery hold n o t⟩
  unfold State.enterRecovery
  dsimp only
  refine resetIfTaken ?_
  split
  · exact (entered _ _ _ _).holdExpires (by simp)
  · exact entered _ _ _ _

theorem askReplay (h : s.LinkRuns) (up : s.link.state = .up) : s.askReplay.LinkRuns := by
  unfold State.askReplay
  split
  · exact h.setLink { h.link with mark := .inr rfl, markTimer := by simp, away := fun e => absurd up e }
  · exact h

theorem takeAckCredit (h : s.LinkRuns) (up : s.link.state = .up) {f : Frame} (win : s.link.inWindow f.ack = true) :
    (s.takeAckCredit f).LinkRuns := by
  have le : s.link.acked f.ack ≤ s.link.ring.length := Link.inWindow_iff.1 win
  unfold State.takeAckCredit State.takeAck
  dsimp only
  split
  · exact h.setLink { h.link with }
  · refine h.setLink (h.link.takeAck up le ?_ f.credit)
    split <;> simp_all

theorem acceptFrame (h : s.LinkRuns) (up : s.link.state = .up) (room : s.link.rx.length < 8) (f : Frame) :
    (s.acceptFrame f).LinkRuns := by
  have accepted (rx : List RxFrame) (eight : rx.length ≤ 8) : (s.setLink
      { s.link with
        expect := s.link.expect + 1, replayMark := none, markTimer := none, updateOwed := true, rx := rx }).LinkRuns :=
    h.setLink { h.link with rx := eight, mark := .inl rfl, markTimer := by simp, away := fun e => absurd up e }
  simp only [State.acceptFrame]
  split
  · exact accepted _ (by simpa using room)
  · exact (accepted _ room.le).report _

theorem takeSequenced (h : s.LinkRuns) (up : s.link.state = .up) (f : Frame) : (s.takeSequenced f).LinkRuns := by
  unfold State.takeSequenced
  dsimp only
  split
  · split
    next room => exact h.acceptFrame up room f
    next => exact (h.report _).askReplay (by simpa using up)
  · split
    · exact h.askReplay up
    · exact h.setLink { h.link with }

theorem hostReplay (h : s.LinkRuns) (up : s.link.state = LinkState.up) (n : Byte) : (s.hostReplay n).LinkRuns := by
  unfold State.hostReplay
  split
  next place =>
    exact ⟨h.running, { h.link with
      resend := fun m e => by cases e; exact place
      away := fun e => absurd up e }⟩
  next => exact enterRecovery h.running h.link.leaves _

theorem newSession (running : s.rst = none) (credit : Byte) : (s.newSession credit).LinkRuns := by
  have fresh (u : State) (h : u.rst = none) : (u.openSession credit).LinkRuns :=
    ⟨h, Link.good_open _ (nextSession_ne_zero _) _ _⟩
  unfold State.newSession
  refine fresh _ ?_
  split
  · simpa using running
  · exact running

theorem hostTrain (h : s.LinkRuns) (f : Frame) : (s.hostTrain f).LinkRuns := by
  have train (s : State) (h : s.LinkRuns) : (match f.body with
      | [_, session, mode, _] =>
        if s.link.state = LinkState.up then s.takeTrainUp (trainModeOf mode) session f.credit
        else s.takeTrain (trainModeOf mode) session f.ack f.credit
      | _ => s).LinkRuns := by
    split
    next session mode _ _ =>
      split
      next up =>
        unfold State.takeTrainUp
        split
        · exact h.setLink { h.link with }
        · exact newSession h.running _
      next away =>
        unfold State.takeTrain
        split
        next resumes =>
          simp only [Link.resumes, Bool.and_eq_true, decide_eq_true_eq] at resumes
          obtain ⟨⟨⟨-, live⟩, -⟩, win⟩ := resumes
          exact h.setLink (h.link.resume live (Link.inWindow_iff.1 win) _ _ _)
        next => exact newSession h.running _
    next => exact h
  refine train _ ?_
  split
  next down => exact h.setLink (h.link.enterTraining down _ _ _)
  next => exact h

theorem ackExpires (h : s.LinkRuns) (up : s.link.state = .up) (runs : s.link.ackTimer.isSome) : s.ackExpires.LinkRuns := by
  have ⟨live, three, hold, timer⟩ := h.link.up up
  unfold State.ackExpires
  dsimp only
  split
  next fewer =>
    have ring := timer.1 runs
    have resends (t : Nat) : Link.Good
        { s.link with expiries := s.link.expiries + 1, resend := some s.link.oldest, ackTimer := some t } :=
      { h.link with
        resend := fun n e => by
          cases e
          exact (oldest_place _).symm ▸ List.length_pos_iff.2 ring
        up := fun _ => ⟨live, Nat.le_of_lt_succ fewer, hold, by simpa using ring⟩
        away := fun e => absurd up e }
    exact ⟨h.running, resends _⟩
  next =>
    have leaves : Link.Leaves { s.link with expiries := s.link.expiries + 1 } :=
      { rx := h.link.rx, ring := h.link.ring, session := h.link.session, expiries := Nat.succ_le_succ three }
    exact enterRecovery (s := s.setLink { s.link with expiries := s.link.expiries + 1 }) h.running leaves _

/-! ### what leaves the link alone -/

/-- The link controller and the reset pin stay as they are. -/
def Same (s t : State) : Prop := t.rst = s.rst ∧ t.link = s.link

theorem of_same {t : State} (h : s.LinkRuns) (same : Same s t) : t.LinkRuns :=
  ⟨same.1.trans h.running, same.2.symm ▸ h.link⟩

/-- R139: a frame leaves its receive slot. -/
theorem dropRx (h : s.LinkRuns) (p : RxFrame → Bool) : (s.dropRx p).LinkRuns :=
  h.setLink { h.link with rx := le_trans List.length_eraseP_le h.link.rx }

theorem takenFor (h : s.LinkRuns) (body : List Byte) (rest : List (List Byte)) : (s.takenFor body rest).LinkRuns := by
  refine h.of_same ?_
  unfold State.takenFor State.echoed
  split <;> exact ⟨rfl, rfl⟩

theorem takeRequest (h : s.LinkRuns) (k : ReqKind) (body : List Byte) : (s.takeRequest k body).LinkRuns := by
  unfold State.takeRequest
  split
  · refine h.of_same ?_
    unfold State.refuse State.echoed
    dsimp only
    split <;> exact ⟨rfl, rfl⟩
  · refine settle (h.of_same ?_)
    rw [State.admitRequest_frame]
    exact ⟨rfl, rfl⟩

theorem takeCancel (h : s.LinkRuns) (body : List Byte) : (s.takeCancel body).LinkRuns := by
  have answer (res : CancelResult) : (s.cancelReply body res).LinkRuns := by
    refine h.of_same ?_
    unfold State.cancelReply State.echoed
    dsimp only
    split <;> exact ⟨rfl, rfl⟩
  unfold State.takeCancel
  split
  · split
    · split
      · split
        · exact settle (h.of_same (by constructor <;> simp))
        · exact answer _
      · exact answer _
    · exact answer _
  · exact answer _

theorem acceptCommit (h : s.LinkRuns) (e : Echo) : (s.acceptCommit e).LinkRuns := by
  refine h.of_same ?_
  unfold State.acceptCommit
  dsimp only
  split
  · constructor <;> simp [State.setCommit]
  · split <;> exact ⟨rfl, rfl⟩

/-- A request of the management queue touches the link controller only where it resets the part. -/
theorem run (h : s.LinkRuns) (row : Row) (body : List Byte) (e : Echo) : (row.run s body e).LinkRuns := by
  have reply (st : MStatus) (v : List Byte) : (s.reply e st v).LinkRuns := h.of_same ⟨rfl, rfl⟩
  cases row
  case get =>
    simp only [Row.run, State.doGet]
    split <;> exact reply _ _
  case set =>
    simp only [Row.run, State.doSet]
    split
    · exact h.of_same ⟨rfl, rfl⟩
    · exact reply _ _
  case commit =>
    simp only [Row.run, State.doCommit]
    split
    · exact reply _ _
    · split
      · exact h.of_same ⟨rfl, rfl⟩
      · exact (h.acceptCommit e).settle
  case enterRetain =>
    simp only [Row.run, State.doEnterRetain]
    split
    · exact settle (h.of_same ⟨rfl, rfl⟩)
    all_goals exact reply _ _
  case leaveRetain =>
    simp only [Row.run, State.doLeaveRetain]
    split
    · refine settle (h.of_same ?_)
      rw [State.wake_frame, State.withdrawDrainHalt_frame]
      exact ⟨rfl, rfl⟩
    · refine settle (h.of_same ?_)
      unfold State.endDrain State.abandonReply
      dsimp only
      rw [State.withdrawDrainHalt_frame]
      split <;> exact ⟨rfl, rfl⟩
    all_goals exact reply _ _
  case resetPart =>
    simp only [Row.run, State.doResetPart]
    split
    · exact ⟨h.running, { h.link with }⟩
    · exact resetPart s
  case setNotice | discard | lapseClear | clear | unknown => exact h.of_same ⟨rfl, rfl⟩

/-! ### every command -/

theorem takeNew (h : s.LinkRuns) (new : s.link.allowsNew = true) (f : OutFrame) : (s.takeNew f).LinkRuns :=
  ⟨h.running, h.link.takeNew new f _⟩

theorem selects {t : State} (x : Selects s t) (h : s.LinkRuns) : t.LinkRuns := by
  cases x
  case answer | offer | ack | replay => exact ⟨h.running, { h.link with }⟩
  case resend n f point up frame =>
    have place : (n - s.link.oldest).toNat < s.link.ring.length := (List.getElem?_eq_some_iff.1 frame).1
    refine ⟨h.running, { h.link with
      resend := fun m e => ?_
      away := fun e => absurd up e }⟩
    simp only [State.send, State.setLink] at e
    split at e
    next more =>
      cases e
      exact (place_next n s.link.oldest h.link.ring more).symm ▸ more
    next => cases e
  case busy new _ | reply new _ | notice new _ | replyHold new _ | cancelHold new _ =>
    refine takeNew ⟨?_, ?_⟩ ?_ _
    · exact h.running
    · exact { h.link with }
    · exact new
  case final r p f new _ _ =>
    refine settle (takeNew ⟨?_, ?_⟩ ?_ f)
    all_goals rw [State.releasePlace_frame]
    · exact h.running
    · exact { h.link with }
    · exact new

theorem pinEffect {c : Instr} {t : State} (x : PinEffect s c t) (h : s.LinkOk) : t.LinkOk := by
  have good := Link.ok_iff.1 h.1
  cases x
  case assert => exact ⟨Link.ok_iff.2 Link.good_reset, fun _ => rfl⟩
  case release kind reset => exact (endReset s kind (h.2 (by simp [reset]))).linkOk
  case present | lost => exact h
  case trains running down => exact linkOk ⟨running, good.enterTraining down _ _ _⟩
  case recovers running up => exact (enterRecovery (s := { s with laneSignal := false }) running good.leaves _).linkOk
  case down running training => exact linkOk ⟨running, good.enterDown (by simp [training])⟩

theorem effect {c : Instr} {t : State} (x : Effect s c t) (h : s.LinkRuns) : t.LinkRuns := by
  cases x
  case badCheck => exact h.of_same ⟨rfl, rfl⟩
  case badCheckUp up => exact askReplay (s := s.count 8) (h.of_same ⟨rfl, rfl⟩) up
  case ackRange => exact enterRecovery h.running h.link.leaves _
  case ackCredit up win => exact h.takeAckCredit up win
  case sequenced f up win =>
    exact (h.takeAckCredit up win).takeSequenced ((State.takeAckCredit_keeps s f).2.2.trans up) f
  case hostReplay f n up win =>
    exact (h.takeAckCredit up win).hostReplay ((State.takeAckCredit_keeps s f).2.2.trans up) n
  case hostTrain f => exact h.hostTrain f
  case ackTimer d runs up => exact (h.reach d).ackExpires up (by simp [runs])
  case markTimer d _ =>
    refine (h.reach d).setLink { h.link with mark := .inl rfl, markTimer := by simp, away := fun e => ?_ }
    obtain ⟨ack, -, rest⟩ := h.link.away e
    exact ⟨ack, rfl, rest⟩
  case holdTimer d runs =>
    refine (h.reach d).holdExpires fun up => ?_
    have := (h.link.up up).2.2.1
    simp [runs] at this
  case offerTimer d runs =>
    exact (h.reach d).setLink { h.link with offerTimer := by simpa [runs] using h.link.offerTimer }
  case stateTimer d state =>
    exact (h.reach d).setLink (h.link.enterDown (by rcases state with e | e <;> simp [e]))
  case transmit x => exact (selects x h).resetIfTaken
  case admission => exact (h.dropRx _).takeRequest _ _
  case cancel => exact (h.dropRx _).takeCancel _
  case manage body _ =>
    exact dropRx (s := { s with mgmt := { s.mgmt with queue := s.mgmt.queue ++ [body] } }) (h.of_same ⟨rfl, rfl⟩) _
  case manageBusy body =>
    refine dropRx (h.of_same ?_) _
    unfold State.busyReply State.echoed
    dsimp only
    split <;> exact ⟨rfl, rfl⟩
  case fails => exact (h.takenFor _ _).of_same ⟨rfl, rfl⟩
  case runs => exact (h.takenFor _ _).run _ _ _
  case tInit | tExit =>
    refine settle (h.of_same ?_)
    rw [State.leaveIdleMode_frame]
    exact ⟨rfl, rfl⟩
  case tOa | tDwell | tWrec | tClose | tRen | idleClose | interval | completesNone =>
    exact settle (h.of_same ⟨rfl, rfl⟩)
  case completes b ups d kind e _ _ =>
    refine settle (h.of_same ?_)
    unfold State.completeEntry
    rw [State.accessEffect_frame]
    constructor <;> simp [State.completeBank]
  case tick =>
    refine settle (h.of_same ?_)
    rw [State.tickRecords_frame]
    exact ⟨rfl, rfl⟩

end State.LinkRuns

/-- Settles O51: every operation of the link keeps its record, and the other commands leave it alone. -/
theorem stepKeepsLink : Obligations.StepKeepsLink := by
  unfold Obligations.StepKeepsLink
  refine step_keeps (P := State.LinkOk) (fun _ _ h => h) (fun _ _ h => h) fun c s t h step => ?_
  rcases exec_cases step with rfl | pin | ⟨running, effect⟩
  · exact h
  · exact State.LinkRuns.pinEffect pin h
  · exact (State.LinkRuns.effect effect ⟨running, Link.ok_iff.1 h.1⟩).linkOk

end Sys2Proof.Machine
end

section
/-! PROOFS. Tags, places, response slots and reads stay in correspondence (O55): each correspondence as a record over the
parts of the state that it reads, what the operations do with it, and then every step. -/

namespace Sys2Proof.Machine

/-! ### the records -/

/-- R53, R117: a requester's places stand for its held tags, one each and at most 64. -/
structure Tagged (tags : Table 16 (List Byte)) (orders : Table 16 (List Place)) : Prop where
  same : ∀ r, tags.get r = (orders.get r).map Place.tag
  nodup : ∀ r, (tags.get r).Nodup
  length : ∀ r, (tags.get r).length ≤ 64

/-- R42: no quota is above 64. -/
def QuotasOk (t : Table 16 Requester) : Prop := ∀ r, (t.get r).quota ≤ 64

/-- The numbers of a list's entries rise with age and are below the next one. -/
structure Numbered (n : Nat) (l : List Entry) : Prop where
  sorted : l.Pairwise fun a b => a.id < b.id
  fresh : ∀ e ∈ l, e.id < n

/-- R86, R112, R125: the reads that are ISSUED and the slots RESERVED for them. -/
structure Reads (slots : Table 32 RespSlot) (l : List Entry) : Prop where
  holds : ∀ e ∈ l, e.respSlot.isSome ↔ e.kind = .read ∧ e.state = .issued
  tagged : ∀ e ∈ l, e.kind = .read → e.state = .waiting → e.tagHeld = true
  reserved : ∀ e ∈ l, ∀ i, e.respSlot = some i → slots.get i = .reserved e.slotOwner (!e.tagHeld)
  unique : ∀ a ∈ l, ∀ b ∈ l, a.respSlot ≠ none → a.respSlot = b.respSlot → a.id = b.id
  owned : ∀ i o d, slots.get i = .reserved o d → ∃ e ∈ l, e.respSlot = some i

/-- R112, R117: a place READY with DATA names the slot filled for its requester and tag. -/
def Placed (slots : Table 32 RespSlot) (orders : Table 16 (List Place)) : Prop :=
  ∀ r, ∀ p ∈ orders.get r, ∀ st i bad, p.state = .data st i bad →
    ∃ o data results lapse, slots.get i = .filled o data results lapse ∧ o.requester = r ∧ o.tag = p.tag

structure State.Responds (s : State) : Prop where
  tags : Tagged s.adm.tags s.resp.orders
  active : QuotasOk s.mgmt.active.requesters
  staged : QuotasOk s.mgmt.staged.requesters
  numbered : Numbered s.sched.nextId s.sched.list
  reads : Reads s.resp.slots s.sched.list
  places : Placed s.resp.slots s.resp.orders

theorem State.placeSlotOk_iff {s : State} {r : ReqNo} {p : Place} : s.placeSlotOk r p = true ↔
    ∀ st i bad, p.state = .data st i bad →
      ∃ o data results lapse, s.resp.slots.get i = .filled o data results lapse ∧ o.requester = r ∧ o.tag = p.tag := by
  unfold State.placeSlotOk
  cases p.state with
  | data st i bad =>
    cases slot : s.resp.slots.get i with
    | free | reserved => simp [slot]
    | filled o data results lapse =>
      constructor
      · rintro owner _ _ _ ⟨⟩
        exact ⟨o, data, results, lapse, slot, by simpa [slot] using owner⟩
      · intro named
        obtain ⟨o', _, _, _, found, owner⟩ := named st i bad rfl
        cases slot.symm.trans found
        simpa [slot] using owner
  | owed | done | void => simp

theorem State.slotOwned_iff {s : State} {i : Fin 32} : s.slotOwned i = true ↔
    ∀ o d, s.resp.slots.get i = .reserved o d → ∃ e ∈ s.sched.list, e.respSlot = some i := by
  unfold State.slotOwned
  cases s.resp.slots.get i <;> simp

theorem distinct_iff {n : Nat} {l : List Entry} (h : Numbered n l) :
    l.Pairwise (fun a b => a.respSlot = none ∨ a.respSlot ≠ b.respSlot) ↔
      ∀ a ∈ l, ∀ b ∈ l, a.respSlot ≠ none → a.respSlot = b.respSlot → a.id = b.id := by
  constructor
  · intro distinct
    have : Std.Symm fun a b : Entry => a.respSlot ≠ none → a.respSlot = b.respSlot → a.id = b.id :=
      ⟨fun a b h slot same => (h (same ▸ slot) same.symm).symm⟩
    have pairs : l.Pairwise fun a b => a.respSlot ≠ none → a.respSlot = b.respSlot → a.id = b.id :=
      distinct.imp fun either slot same => by rcases either with e | e <;> contradiction
    exact fun a ha b hb => pairs.forall_of_forall (fun _ _ _ _ => rfl) ha hb
  · intro unique
    refine h.sorted.imp_of_mem fun {a b} ha hb lt => ?_
    by_contra both
    push Not at both
    have := unique a ha b hb both.1 both.2
    omega

theorem State.responseOk_iff {s : State} : s.ResponseOk ↔ s.Responds := by
  constructor
  · rintro ⟨⟨tags, quotas⟩, sorted, fresh, entry, distinct, places, owned⟩
    exact
      { tags := ⟨fun r => (tags r).1, fun r => (tags r).2.1, fun r => (tags r).2.2⟩
        active := fun r => (quotas r).1
        staged := fun r => (quotas r).2
        numbered := ⟨sorted, fresh⟩
        reads := ⟨fun e he => (entry e he).1, fun e he => (entry e he).2.1, fun e he => (entry e he).2.2,
          (distinct_iff ⟨sorted, fresh⟩).1 distinct, fun i => State.slotOwned_iff.1 (owned i)⟩
        places := fun r p hp => State.placeSlotOk_iff.1 (places r p hp) }
  · intro h
    exact ⟨⟨fun r => ⟨h.tags.same r, h.tags.nodup r, h.tags.length r⟩, fun r => ⟨h.active r, h.staged r⟩⟩,
      h.numbered.sorted, h.numbered.fresh,
      fun e he => ⟨h.reads.holds e he, h.reads.tagged e he, h.reads.reserved e he⟩,
      (distinct_iff h.numbered).2 h.reads.unique, fun r p hp => State.placeSlotOk_iff.2 (h.places r p hp),
      fun i => State.slotOwned_iff.2 (h.reads.owned i)⟩

/-! ### the list -/

/-- What the correspondence of reads and slots reads of an entry: its links, its age and the state of a write left out. -/
def Entry.held (e : Entry) : Entry :=
  { e with
    blockedBy := none, bypass := 0, overdue := false, state := if e.kind = .read then e.state else .waiting }

section
variable {e e' : Entry}

theorem Entry.id_of_held (h : e'.held = e.held) : e'.id = e.id := (congrArg Entry.id h :)
theorem Entry.kind_of_held (h : e'.held = e.held) : e'.kind = e.kind := (congrArg Entry.kind h :)
theorem Entry.state_of_held (h : e'.held = e.held) (read : e'.kind = .read) : e'.state = e.state := by
  have same : (if e'.kind = .read then e'.state else .waiting) = if e.kind = .read then e.state else .waiting :=
    (congrArg Entry.state h :)
  rwa [if_pos read, if_pos ((Entry.kind_of_held h).symm.trans read)] at same
theorem Entry.tagHeld_of_held (h : e'.held = e.held) : e'.tagHeld = e.tagHeld := (congrArg Entry.tagHeld h :)
theorem Entry.respSlot_of_held (h : e'.held = e.held) : e'.respSlot = e.respSlot := (congrArg Entry.respSlot h :)
theorem Entry.slotOwner_of_held (h : e'.held = e.held) : e'.slotOwner = e.slotOwner := (congrArg Entry.slotOwner h :)

theorem Entry.held_of_unlinked (h : e'.unlinked = e.unlinked) : e'.held = e.held := (congrArg Entry.held h :)

end

theorem mem_of_map_eq {α β : Type} {f : α → β} {l l' : List α} (h : l'.map f = l.map f) {x : α} (hx : x ∈ l') :
    ∃ y ∈ l, f y = f x := List.mem_map.1 (h ▸ List.mem_map_of_mem hx)

section
variable {n : Nat} {slots : Table 32 RespSlot} {l l' : List Entry}

/-- Entries may leave, and those that stay keep their numbers. -/
theorem Numbered.sublist (h : Numbered n l) (sub : (l'.map Entry.id).Sublist (l.map Entry.id)) : Numbered n l' where
  sorted := List.pairwise_map.1 ((List.pairwise_map.2 h.sorted).sublist sub)
  fresh e he := by
    obtain ⟨x, hx, same⟩ := List.mem_map.1 (sub.subset (List.mem_map_of_mem he))
    exact same ▸ h.fresh x hx

theorem Numbered.congr (h : Numbered n l) (same : l'.map Entry.id = l.map Entry.id) : Numbered n l' :=
  h.sublist (same ▸ List.Sublist.refl _)

theorem relink_ids (l : List Entry) : (relink l).map Entry.id = l.map Entry.id := by
  have := congrArg (List.map Entry.id) (relink_unlinked l)
  rwa [List.map_map, List.map_map] at this

theorem Numbered.relink_filter (h : Numbered n l) (p : Entry → Bool) : Numbered n (relink (l.filter p)) :=
  h.sublist (by rw [relink_ids]; exact List.filter_sublist.map _)

theorem Numbered.append (h : Numbered n l) {e : Entry} (id : e.id = n) : Numbered (n + 1) (l ++ [e]) where
  sorted := List.pairwise_append.2 ⟨h.sorted, by simp, fun a ha b hb => by
    rw [List.mem_singleton.1 hb, id]
    exact h.fresh a ha⟩
  fresh x hx := by
    rcases List.mem_append.1 hx with hx | hx
    · exact (h.fresh x hx).trans (Nat.lt_succ_self n)
    · rw [List.mem_singleton.1 hx, id]
      exact Nat.lt_succ_self n

theorem Numbered.eq (h : Numbered n l) {a b : Entry} (ha : a ∈ l) (hb : b ∈ l) (same : a.id = b.id) : a = b :=
  eq_of_id_eq h.sorted ha hb same

/-- Links and age may change, and entries without a slot may leave. -/
theorem Reads.congr (h : Reads slots l) (kept : ∀ e' ∈ l', ∃ e ∈ l, e.held = e'.held)
    (stay : ∀ e ∈ l, e.respSlot ≠ none → ∃ e' ∈ l', e'.held = e.held) : Reads slots l' where
  holds e' he' := by
    obtain ⟨e, he, same⟩ := kept e' he'
    rw [← Entry.respSlot_of_held same, ← Entry.kind_of_held same, h.holds e he]
    exact and_congr_right fun read => by rw [Entry.state_of_held same read]
  tagged e' he' := by
    obtain ⟨e, he, same⟩ := kept e' he'
    rw [← Entry.tagHeld_of_held same, ← Entry.kind_of_held same]
    exact fun read waiting => h.tagged e he read ((Entry.state_of_held same read).trans waiting)
  reserved e' he' := by
    obtain ⟨e, he, same⟩ := kept e' he'
    rw [← Entry.respSlot_of_held same, ← Entry.slotOwner_of_held same, ← Entry.tagHeld_of_held same]
    exact h.reserved e he
  unique a' ha' b' hb' := by
    obtain ⟨a, ha, sameA⟩ := kept a' ha'
    obtain ⟨b, hb, sameB⟩ := kept b' hb'
    rw [← Entry.respSlot_of_held sameA, ← Entry.respSlot_of_held sameB, ← Entry.id_of_held sameA,
      ← Entry.id_of_held sameB]
    exact h.unique a ha b hb
  owned i o d slot := by
    obtain ⟨e, he, owns⟩ := h.owned i o d slot
    obtain ⟨e', he', same⟩ := stay e he (by simp [owns])
    exact ⟨e', he', (Entry.respSlot_of_held same).trans owns⟩

/-- R71: relinking keeps every read and its slot. -/
theorem Reads.relink (h : Reads slots l) : Reads slots (relink l) :=
  h.congr
    (fun _ he => by
      obtain ⟨y, hy, same⟩ := mem_of_map_eq (relink_unlinked l) he
      exact ⟨y, hy, Entry.held_of_unlinked same⟩)
    (fun _ he _ => by
      obtain ⟨y, hy, same⟩ := mem_of_map_eq (relink_unlinked l).symm he
      exact ⟨y, hy, Entry.held_of_unlinked same⟩)

/-- An entry that holds no slot leaves. -/
theorem Reads.remove (h : Reads slots l) {e : Entry} (none : ∀ x ∈ l, x.id = e.id → x.respSlot = none) :
    Reads slots (Machine.relink (l.filter fun x => x.id ≠ e.id)) := by
  refine Reads.relink (h.congr (fun x hx => ⟨x, (List.mem_filter.1 hx).1, rfl⟩) fun x hx slot => ⟨x, ?_, rfl⟩)
  exact List.mem_filter.2 ⟨hx, by simpa using fun same => slot (none x hx same)⟩

/-- A waiting entry joins the list. -/
theorem Reads.append (h : Reads slots l) {e : Entry} (waiting : e.state = .waiting) (none : e.respSlot = none)
    (held : e.kind = .read → e.tagHeld = true) : Reads slots (l ++ [e]) where
  holds x hx := by
    rcases List.mem_append.1 hx with hx | hx
    · exact h.holds x hx
    · simp [List.mem_singleton.1 hx, waiting, none]
  tagged x hx := by
    rcases List.mem_append.1 hx with hx | hx
    · exact h.tagged x hx
    · rw [List.mem_singleton.1 hx]
      exact fun read _ => held read
  reserved x hx := by
    rcases List.mem_append.1 hx with hx | hx
    · exact h.reserved x hx
    · simp [List.mem_singleton.1 hx, none]
  unique a ha b hb slot same := by
    rcases List.mem_append.1 ha with ha | ha
    · rcases List.mem_append.1 hb with hb | hb
      · exact h.unique a ha b hb slot same
      · rw [List.mem_singleton.1 hb, none] at same
        exact absurd same slot
    · rw [List.mem_singleton.1 ha] at slot
      exact absurd none slot
  owned i o d slot := by
    obtain ⟨x, hx, owns⟩ := h.owned i o d slot
    exact ⟨x, List.mem_append_left _ hx, owns⟩

/-- R82, R113: a read that waits is issued, and a free slot reserved for it. -/
theorem Reads.issue (h : Reads slots l) {e : Entry} (he : e ∈ l) (numbered : Numbered n l) (read : e.kind = .read)
    (waiting : e.state = .waiting) {i : Fin 32} (free : slots.get i = .free) {f : Entry → Entry}
    (own : f e = e.issuedWith (some i)) (others : ∀ x ∈ l, x.id ≠ e.id → (f x).held = x.held) :
    Reads (slots.set i (.reserved e.slotOwner false)) (l.map f) := by
  have held : e.tagHeld = true := h.tagged e he read waiting
  have cases (x : Entry) (hx : x ∈ l.map f) :
      x = e.issuedWith (some i) ∨ ∃ y ∈ l, y.id ≠ e.id ∧ x.held = y.held := by
    obtain ⟨y, hy, rfl⟩ := List.mem_map.1 hx
    by_cases same : y.id = e.id
    · exact .inl (numbered.eq hy he same ▸ own)
    · exact .inr ⟨y, hy, same, others y hy same⟩
  have elsewhere (x : Entry) (hx : x ∈ l) : x.respSlot ≠ some i := fun slot => by
    have := (h.reserved x hx i slot).symm.trans free
    cases this
  constructor
  case holds =>
    intro x hx
    rcases cases x hx with rfl | ⟨y, hy, -, same⟩
    · simp [Entry.issuedWith, read]
    · rw [Entry.respSlot_of_held same, Entry.kind_of_held same, h.holds y hy]
      exact and_congr_right fun read => by rw [Entry.state_of_held same.symm read]
  case tagged =>
    intro x hx
    rcases cases x hx with rfl | ⟨y, hy, -, same⟩
    · exact fun _ _ => held
    · intro read waiting
      rw [Entry.tagHeld_of_held same]
      exact h.tagged y hy ((Entry.kind_of_held same).symm.trans read)
        ((Entry.state_of_held same read).symm.trans waiting)
  case reserved =>
    intro x hx j slot
    rcases cases x hx with rfl | ⟨y, hy, -, same⟩
    · have : i = j := by simpa [Entry.issuedWith] using slot
      subst this
      rw [Table.get_set_same]
      show RespSlot.reserved e.slotOwner false = .reserved e.slotOwner (!e.tagHeld)
      rw [held]
      rfl
    · rw [Entry.respSlot_of_held same] at slot
      rw [Table.get_set_ne _ _ (fun here : j = i => elsewhere y hy (here ▸ slot)), Entry.slotOwner_of_held same,
        Entry.tagHeld_of_held same]
      exact h.reserved y hy j slot
  case unique =>
    intro a ha b hb slot same
    rcases cases a ha with rfl | ⟨x, hx, -, sameA⟩ <;> rcases cases b hb with rfl | ⟨y, hy, -, sameB⟩
    · rfl
    · exact absurd (same.symm.trans (by simp [Entry.issuedWith]))
        (Entry.respSlot_of_held sameB ▸ elsewhere y hy)
    · exact absurd (same.trans (by simp [Entry.issuedWith])) (Entry.respSlot_of_held sameA ▸ elsewhere x hx)
    · rw [Entry.respSlot_of_held sameA] at slot same
      rw [Entry.respSlot_of_held sameB] at same
      rw [Entry.id_of_held sameA, Entry.id_of_held sameB]
      exact h.unique x hx y hy slot same
  case owned =>
    intro j o d slot
    by_cases here : j = i
    · exact ⟨f e, List.mem_map_of_mem he, by simp [own, Entry.issuedWith, here]⟩
    · rw [Table.get_set_ne _ _ here] at slot
      obtain ⟨x, hx, owns⟩ := h.owned j o d slot
      refine ⟨f x, List.mem_map_of_mem hx, ?_⟩
      have other : x.id ≠ e.id := fun same => by
        have issued := ((h.holds x hx).1 (by simp [owns])).2
        rw [numbered.eq hx he same, waiting] at issued
        cases issued
      exact (Entry.respSlot_of_held (others x hx other)).trans owns

/-- R114: a read completes: its slot is no longer reserved, and its entry leaves. -/
theorem Reads.complete (h : Reads slots l) {e : Entry} (he : e ∈ l) (numbered : Numbered n l) {i : Fin 32}
    (slot : e.respSlot = some i) {r : RespSlot} (taken : ∀ o d, r ≠ .reserved o d) :
    Reads (slots.set i r) (Machine.relink (l.filter fun x => x.id ≠ e.id)) := by
  have left (x : Entry) (hx : x ∈ l.filter fun x => x.id ≠ e.id) : x ∈ l ∧ x.id ≠ e.id := by
    simpa using List.mem_filter.1 hx
  have elsewhere (x : Entry) (hx : x ∈ l) (other : x.id ≠ e.id) : x.respSlot ≠ some i := fun own =>
    other (h.unique x hx e he (by simp [own]) (own.trans slot.symm))
  refine Reads.relink ⟨fun x hx => h.holds x (left x hx).1, fun x hx => h.tagged x (left x hx).1, fun x hx j own => ?_,
    fun a ha b hb => h.unique a (left a ha).1 b (left b hb).1, fun j o d own => ?_⟩
  · obtain ⟨mem, other⟩ := left x hx
    rw [Table.get_set_ne _ _ fun here : j = i => elsewhere x mem other (here ▸ own)]
    exact h.reserved x mem j own
  · by_cases here : j = i
    · subst here
      rw [Table.get_set_same] at own
      exact absurd own (taken o d)
    · rw [Table.get_set_ne _ _ here] at own
      obtain ⟨x, hx, owns⟩ := h.owned j o d own
      refine ⟨x, List.mem_filter.2 ⟨hx, ?_⟩, owns⟩
      have other : x.id ≠ e.id := fun same => by
        rw [numbered.eq hx he same, slot] at owns
        exact here (Option.some.inj owns).symm
      simpa using other

/-- A slot that is not reserved changes, and is not reserved after. -/
theorem Reads.setSlot (h : Reads slots l) {i : Fin 32} {r : RespSlot} (before : ∀ o d, slots.get i ≠ .reserved o d)
    (after : ∀ o d, r ≠ .reserved o d) : Reads (slots.set i r) l :=
  { h with
    reserved := fun x hx j own => by
      have reserved := h.reserved x hx j own
      rw [Table.get_set_ne _ _ fun here : j = i => before _ _ (here ▸ reserved)]
      exact reserved
    owned := fun j o d own => by
      by_cases here : j = i
      · subst here
        rw [Table.get_set_same] at own
        exact absurd own (after o d)
      · rw [Table.get_set_ne _ _ here] at own
        exact h.owned j o d own }

/-- R91, R125: the reads in progress at a session loss keep their slots, marked for discard. -/
theorem Reads.lose (h : Reads slots l) : Reads (slots.mapIdx fun _ x => x.atLoss) (sessionList l) := by
  have left (x : Entry) (hx : x ∈ (l.filter fun e => e.state = .issued).map fun e => { e with tagHeld := false }) :
      ∃ y ∈ l, y.state = .issued ∧ { y with tagHeld := false } = x := by
    obtain ⟨y, hy, rfl⟩ := List.mem_map.1 hx
    obtain ⟨mem, issued⟩ := List.mem_filter.1 hy
    exact ⟨y, mem, by simpa using issued, rfl⟩
  refine Reads.relink ⟨fun x hx => ?_, fun x hx read waiting => ?_, fun x hx i own => ?_, fun a ha b hb => ?_,
    fun i o d own => ?_⟩
  · obtain ⟨y, hy, -, rfl⟩ := left x hx
    exact h.holds y hy
  · obtain ⟨y, hy, issued, rfl⟩ := left x hx
    cases issued.symm.trans waiting
  · obtain ⟨y, hy, -, rfl⟩ := left x hx
    rw [Table.get_mapIdx, h.reserved y hy i own]
    rfl
  · obtain ⟨x, hx, -, rfl⟩ := left a ha
    obtain ⟨y, hy, -, rfl⟩ := left b hb
    exact h.unique x hx y hy
  · rw [Table.get_mapIdx] at own
    cases slot : slots.get i with
    | free | filled => rw [slot] at own; cases own
    | reserved o' d' =>
      obtain ⟨x, hx, owns⟩ := h.owned i o' d' slot
      have issued := ((h.holds x hx).1 (by simp [owns])).2
      exact ⟨{ x with tagHeld := false }, List.mem_map.2 ⟨x, List.mem_filter.2 ⟨hx, by simp [issued]⟩, rfl⟩, owns⟩

theorem Reads.empty : Reads Response.reset.slots [] := by
  constructor <;> simp [Response.reset]

end

/-! ### tags and places -/

section
variable {tags : Table 16 (List Byte)} {orders : Table 16 (List Place)} {slots : Table 32 RespSlot}

theorem Tagged.empty : Tagged (Table.fill 16 []) (Table.fill 16 []) := by
  constructor <;> simp

/-- The places of a requester may change, with their tags and their number. -/
theorem Tagged.setOrder (h : Tagged tags orders) (r : ReqNo) {l : List Place}
    (same : l.map Place.tag = (orders.get r).map Place.tag) : Tagged tags (orders.set r l) where
  same x := by
    by_cases here : x = r
    · subst here
      rw [Table.get_set_same, same]
      exact h.same x
    · rw [Table.get_set_ne _ _ here]
      exact h.same x
  nodup := h.nodup
  length := h.length

/-- R59: a free tag is taken, with its place. -/
theorem Tagged.hold (h : Tagged tags orders) {r : ReqNo} {p : Place} (free : p.tag ∉ tags.get r)
    (room : (tags.get r).length < 64) :
    Tagged (tags.set r (tags.get r ++ [p.tag])) (orders.set r (orders.get r ++ [p])) := by
  constructor <;> intro x <;> by_cases here : x = r
  · subst here
    simp [h.same x]
  · rw [Table.get_set_ne _ _ here, Table.get_set_ne _ _ here]
    exact h.same x
  · subst here
    rw [Table.get_set_same]
    exact List.nodup_append.2 ⟨h.nodup x, by simp, fun a ha b hb => by
      rw [List.mem_singleton.1 hb]
      exact fun e => free (e ▸ ha)⟩
  · rw [Table.get_set_ne _ _ here]
    exact h.nodup x
  · subst here
    simpa using room
  · rw [Table.get_set_ne _ _ here]
    exact h.length x

theorem map_tag_eraseP (l : List Place) (t : Byte) :
    (l.eraseP fun q => q.tag = t).map Place.tag = (l.map Place.tag).erase t := by
  induction l with
  | nil => rfl
  | cons p ps ih => by_cases same : p.tag = t <;> simp [same, ih]

/-- R122: a place leaves, with its tag. -/
theorem Tagged.release (h : Tagged tags orders) (r : ReqNo) (t : Byte) :
    Tagged (tags.set r ((tags.get r).erase t)) (orders.set r ((orders.get r).eraseP fun q => q.tag = t)) := by
  constructor <;> intro x <;> by_cases here : x = r
  · subst here
    simp only [Table.get_set_same, map_tag_eraseP, h.same x]
  · rw [Table.get_set_ne _ _ here, Table.get_set_ne _ _ here]
    exact h.same x
  · subst here
    rw [Table.get_set_same]
    exact (h.nodup x).erase t
  · rw [Table.get_set_ne _ _ here]
    exact h.nodup x
  · subst here
    rw [Table.get_set_same]
    exact List.length_erase_le.trans (h.length x)
  · rw [Table.get_set_ne _ _ here]
    exact h.length x

theorem Placed.empty : Placed slots (Table.fill 16 []) := fun r p hp => by simp at hp

/-- A slot that was not filled may change. -/
theorem Placed.setSlot (h : Placed slots orders) {i : Fin 32} (r : RespSlot)
    (idle : ∀ o d rs lp, slots.get i ≠ .filled o d rs lp) : Placed (slots.set i r) orders := by
  intro x p hp st j bad data
  obtain ⟨o, d, rs, lp, slot, owner⟩ := h x p hp st j bad data
  refine ⟨o, d, rs, lp, ?_, owner⟩
  rw [Table.get_set_ne _ _ fun here : j = i => idle o d rs lp (here ▸ slot)]
  exact slot

/-- The places of a requester may change, each to one that stood before or to one whose slot is filled for it. -/
theorem Placed.setOrder (h : Placed slots orders) (r : ReqNo) {l : List Place}
    (from_ : ∀ p ∈ l, p ∈ orders.get r ∨ ∀ st i bad, p.state = .data st i bad →
      ∃ o d rs lp, slots.get i = .filled o d rs lp ∧ o.requester = r ∧ o.tag = p.tag) :
    Placed slots (orders.set r l) := by
  intro x p hp
  by_cases here : x = r
  · subst here
    rw [Table.get_set_same] at hp
    rcases from_ p hp with old | new
    · exact h x p old
    · exact new
  · rw [Table.get_set_ne _ _ here] at hp
    exact h x p hp

/-- R122: the place that names a slot leaves, and the slot becomes free. -/
theorem Placed.release (h : Placed slots orders) (tagged : Tagged tags orders) {r : ReqNo} {p : Place}
    (hp : p ∈ orders.get r) {st : DataStatus} {i : Fin 32} {bad : List Nat} (data : p.state = .data st i bad) :
    Placed (slots.set i .free) (orders.set r ((orders.get r).eraseP fun q => q.tag = p.tag)) := by
  intro x q hq st' j bad' named
  have stood : q ∈ orders.get x ∧ (x = r → q.tag ≠ p.tag) := by
    by_cases here : x = r
    · subst here
      rw [Table.get_set_same] at hq
      have sub := List.mem_of_mem_eraseP hq
      refine ⟨sub, fun _ same => ?_⟩
      have gone : q.tag ∉ ((orders.get x).map Place.tag).erase p.tag := same ▸
        (tagged.same x ▸ tagged.nodup x : ((orders.get x).map Place.tag).Nodup).not_mem_erase
      exact gone (map_tag_eraseP _ _ ▸ List.mem_map_of_mem hq)
    · rw [Table.get_set_ne _ _ here] at hq
      exact ⟨hq, fun e => absurd e here⟩
  obtain ⟨o, d, rs, lp, slot, req, tag⟩ := h x q stood.1 st' j bad' named
  obtain ⟨o', d', rs', lp', slot', req', tag'⟩ := h r p hp st i bad data
  refine ⟨o, d, rs, lp, ?_, req, tag⟩
  rw [Table.get_set_ne]
  · exact slot
  · rintro rfl
    cases slot.symm.trans slot'
    exact stood.2 (req.symm.trans req') (tag.symm.trans tag')

end

theorem readied_tags (l : List Place) (t : Byte) (st : PlaceState) :
    (l.map fun p => if p.tag = t && p.state = .owed then { p with state := st } else p).map Place.tag =
      l.map Place.tag := by
  rw [List.map_map]
  refine List.map_congr_left fun p _ => ?_
  simp only [Function.comp_apply]
  split <;> rfl

/-- The places after one becomes READY: each stood before, or is READY as given. -/
theorem readied_placed {slots : Table 32 RespSlot} {l : List Place} {r : ReqNo} {t : Byte} {st : PlaceState}
    (data : ∀ x i bad, st = .data x i bad →
      ∃ o d rs lp, slots.get i = .filled o d rs lp ∧ o.requester = r ∧ o.tag = t) :
    ∀ p ∈ l.map fun p => if p.tag = t && p.state = .owed then { p with state := st } else p, p ∈ l ∨
      ∀ x i bad, p.state = .data x i bad → ∃ o d rs lp, slots.get i = .filled o d rs lp ∧ o.requester = r ∧ o.tag = p.tag := by
  intro p hp
  obtain ⟨q, hq, rfl⟩ := List.mem_map.1 hp
  by_cases named : (q.tag = t && q.state = .owed) = true
  · rw [if_pos named]
    have tag : q.tag = t := by
      simp only [Bool.and_eq_true, decide_eq_true_eq] at named
      exact named.1
    exact .inr fun x i bad e => tag ▸ data x i bad e
  · rw [if_neg named]
    exact .inl hq

theorem candidateIn_mem {l : List Place} {p : Place} (h : candidateIn l = some p) : p ∈ l := by
  unfold candidateIn at h
  split at h
  next => cases h
  next q qs =>
    split at h
    next => cases h; exact List.mem_cons_self
    next => exact List.mem_cons_of_mem _ (List.mem_of_find?_eq_some h)

/-! ### quotas (R42) -/

theorem parseRequester_quota {v : List Byte} {r : Requester} (h : parseRequester v = some r) : r.quota ≤ 64 := by
  unfold parseRequester at h
  split at h
  next =>
    split at h
    next range => cases h; exact range.2.1
    next => cases h
  next => cases h

theorem QuotasOk.setValue {o : Objects} (h : QuotasOk o.requesters) (obj : Obj) (v : List Byte) :
    QuotasOk (o.setValue obj v).requesters := by
  unfold Objects.setValue
  split
  case h_3 n =>
    intro r
    by_cases here : r = n
    · subst here
      rw [Table.get_set_same]
      cases parsed : parseRequester v with
      | none => exact h r
      | some x => exact parseRequester_quota parsed
    · rw [Table.get_set_ne _ _ here]
      exact h r
  all_goals exact h

theorem quotasOk_reset : QuotasOk Objects.reset.requesters := by
  intro r
  simp only [Objects.reset, Table.get_ofFn, Requester.reset]
  split <;> decide

/-! ### the operations -/

namespace State.Responds
variable {s : State}

theorem issueAccess (h : s.Responds) (b : BankNo) {e : Entry} (mem : e ∈ s.sched.list) (ready : s.ready e = true) :
    (s.issueAccess b e).Responds := by
  obtain ⟨waiting, -, may⟩ := (s.ready_iff e).1 ready
  have aged (x : Entry) : (s.aged x).held = x.held := by unfold State.aged; split <;> rfl
  have ids : (s.listAfterAccess e).map Entry.id = s.sched.list.map Entry.id := by
    rw [State.listAfterAccess, List.map_map]
    refine List.map_congr_left fun x _ => ?_
    simp only [Function.comp_apply]
    split
    · rfl
    · split <;> simp
  have others (x : Entry) (other : x.id ≠ e.id) :
      (if x.id = e.id then x.issuedWith (s.slotFor e) else if x.id < e.id then s.aged x else x).held = x.held := by
    rw [if_neg other]
    split
    · exact aged x
    · rfl
  have lists : Reads (s.slotsAfterAccess e) (s.listAfterAccess e) ∧
      Placed (s.slotsAfterAccess e) s.resp.orders := by
    by_cases read : e.kind = .read
    · have room : 0 < s.freeSlots := by
        have : s.mayReserve e = true := by simpa [read] using may
        simp only [State.mayReserve, Bool.or_eq_true, Bool.and_eq_true, decide_eq_true_eq] at this
        omega
      obtain ⟨i, found⟩ := Table.findIdx?_isSome room
      have met := Table.findIdx?_some found
      have free : s.resp.slots.get i = .free := by simpa using met
      have slot : s.slotFor e = some i := by rw [State.slotFor, if_pos read]; exact found
      simp only [State.slotsAfterAccess, slot]
      exact ⟨h.reads.issue mem h.numbered read waiting free (by rw [if_pos rfl, slot]) fun x _ => others x,
        h.places.setSlot _ (by simp [free])⟩
    · have slot : s.slotFor e = none := if_neg read
      have kept (x : Entry) (hx : x ∈ s.sched.list) :
          (if x.id = e.id then x.issuedWith (s.slotFor e) else if x.id < e.id then s.aged x else x).held = x.held := by
        by_cases own : x.id = e.id
        · rw [if_pos own, slot, h.numbered.eq hx mem own]
          simp [Entry.held, Entry.issuedWith, read]
        · exact others x own
      simp only [State.slotsAfterAccess, slot]
      refine ⟨h.reads.congr (fun x hx => ?_) fun x hx _ => ⟨_, List.mem_map_of_mem hx, kept x hx⟩, h.places⟩
      obtain ⟨y, hy, rfl⟩ := List.mem_map.1 hx
      exact ⟨y, hy, (kept y hy).symm⟩
  rw [State.issueAccess_eq b h.numbered.sorted mem]
  exact { h with numbered := h.numbered.congr ids, reads := lists.1, places := lists.2 }

theorem issue (h : s.Responds) {c : Cand} (chosen : s.choice = some c) : (s.issue c).Responds := by
  cases op : c.op with
  | access e =>
    obtain ⟨mem, -, ready⟩ := State.choice_access chosen op
    simp only [State.issue, op]
    exact h.issueAccess c.bank mem ready
  | openFor e | close | renew =>
    simp only [State.issue, op]
    exact { h with }

theorem commitPoint (h : s.Responds) : s.commitPoint.Responds := by
  have promoted (e : Entry) : (promote s.mgmt.staged e).held = e.held := by unfold promote; split <;> rfl
  rw [State.commitPoint_frame]
  exact { h with
    active := h.staged
    numbered := h.numbered.congr (by
      rw [State.applyCommit, List.map_map]
      exact List.map_congr_left fun e _ => Entry.id_of_held (promoted e))
    reads := h.reads.congr
      (fun x hx => by
        obtain ⟨y, hy, rfl⟩ := List.mem_map.1 hx
        exact ⟨y, hy, (promoted y).symm⟩)
      (fun x hx _ => ⟨_, List.mem_map_of_mem hx, promoted x⟩) }

theorem loseSession (h : s.Responds) : s.loseSession.Responds := by
  simp only [State.loseSession]
  rw [State.report_frame]
  exact { h with
    tags := Tagged.empty
    numbered := h.numbered.sublist (by
      dsimp only [sessionList]
      rw [relink_ids, List.map_map]
      exact List.filter_sublist.map _)
    reads := h.reads.lose
    places := Placed.empty }

theorem beginReset (s : State) : s.beginReset.Responds where
  tags := Tagged.empty
  active := quotasOk_reset
  staged := quotasOk_reset
  numbered := ⟨.nil, by simp [State.beginReset, Sched.reset]⟩
  reads := Reads.empty
  places := Placed.empty

theorem endReset (h : s.Responds) (kind : StartKind) : (s.endReset kind).Responds := by
  rw [State.endReset_frame]
  exact { h with }

/-- R58, R59: an admitted request's entry, and its tag with its place. -/
theorem admitRequest (h : s.Responds) {k : ReqKind} {q : DataReq} {w : Window} (fits : s.Fits k q w) :
    (s.admitRequest k q w).Responds := by
  have waiting : (s.newEntry k q w).state = .waiting := rfl
  have held : (s.newEntry k q w).kind = .read → (s.newEntry k q w).tagHeld = true := by
    intro read
    have read : k = .read := read
    simp [State.newEntry, State.detached, read]
  have numbered := h.numbered.append (e := s.newEntry k q w) rfl
  have reads := h.reads.append waiting rfl held
  unfold State.admitRequest
  dsimp only
  rw [State.fillSlot_frame]
  split
  next holds =>
    have attached : s.detached k q.requester ≠ true := by
      have : (!s.detached k q.requester) = true := holds
      simpa using this
    have room : (s.adm.tags.get q.requester).length < 64 := by
      have := fits.quota.resolve_left attached
      have := h.active q.requester
      unfold State.reqEntry at *
      omega
    refine { h with tags := ?_, numbered := numbered, reads := reads, places := ?_ }
    · exact h.tags.hold (p := { tag := q.tag, mode := (s.reqEntry q.requester).order, state := .owed }) fits.tag room
    · refine h.places.setOrder q.requester fun p hp => ?_
      rcases List.mem_append.1 hp with old | new
      · exact .inl old
      · refine .inr fun st i bad data => ?_
        rw [List.mem_singleton.1 new] at data
        cases data
  next => exact { h with numbered := numbered, reads := reads }

/-- R118: a place becomes READY; with DATA, its slot is filled for it. -/
theorem readyPlace (h : s.Responds) (r : ReqNo) (t : Byte) {st : PlaceState}
    (data : ∀ x i bad, st = .data x i bad →
      ∃ o d rs lp, s.resp.slots.get i = .filled o d rs lp ∧ o.requester = r ∧ o.tag = t) :
    (s.readyPlace r t st).Responds :=
  { h with
    tags := h.tags.setOrder r (readied_tags _ _ _)
    places := h.places.setOrder r (readied_placed data) }

/-- An entry that holds no slot leaves the list, with its write slot. -/
theorem removeEntry (h : s.Responds) {e : Entry} (mem : e ∈ s.sched.list) (none : e.respSlot = none) :
    ((s.freeWriteSlot e).removeEntry e).Responds := by
  rw [State.freeWriteSlot_frame]
  exact { h with
    numbered := h.numbered.relink_filter _
    reads := h.reads.remove fun x hx same => by rw [h.numbered.eq hx mem same, none] }

/-- R114, R119: an access completes: the entry leaves, its slot takes the data, and its place becomes READY. -/
theorem completes (h : s.Responds) {b : BankNo} {e : Entry} (issued : s.issuedOn b = some e) (olds : List (Option Chunk))
    (ups : List Upset) : ((s.accessEffect e olds ups).completeEntry b e).Responds := by
  have mem : e ∈ s.sched.list := List.mem_of_find?_eq_some issued
  have state : e.state = .issued := by
    have := List.find?_some issued
    simp only [Bool.and_eq_true, decide_eq_true_eq] at this
    exact this.2
  have leave (u : State) (hu : ((u.freeWriteSlot e).removeEntry e).Responds) : (u.completeEntry b e).Responds :=
    { hu with }
  by_cases read : e.kind = .read
  · obtain ⟨i, slot⟩ := Option.isSome_iff_exists.1 ((h.reads.holds e mem).2 ⟨read, state⟩)
    have reserved := h.reads.reserved e mem i slot
    have idle : ∀ o d rs lp, s.resp.slots.get i ≠ .filled o d rs lp := by simp [reserved]
    have chunks : (s.readChunks e ups (List.range e.size.chunks)).2.resp = s.resp := by rw [State.readChunks_frame]
    have after {r : RespSlot} (taken : ∀ o d, r ≠ .reserved o d) := h.reads.complete mem h.numbered slot taken
    refine leave _ ?_
    rw [State.freeWriteSlot_frame]
    unfold State.accessEffect State.readDone
    simp only [read, slot, chunks, reserved]
    cases held : e.tagHeld with
    | true =>
      rw [State.readChunks_frame]
      exact { h with
        tags := h.tags.setOrder _ (readied_tags _ _ _)
        numbered := h.numbered.relink_filter _
        reads := after (by simp)
        places := (h.places.setSlot _ idle).setOrder _ (readied_placed fun x j bad data => by
          cases data
          exact ⟨_, _, _, _, Table.get_set_same _ _ _, rfl, rfl⟩) }
    | false =>
      rw [State.readChunks_frame]
      exact { h with
        numbered := h.numbered.relink_filter _
        reads := after (by simp)
        places := h.places.setSlot _ idle }
  · have none : e.respSlot = none := by
      by_contra some
      exact read ((h.reads.holds e mem).1 (Option.isSome_iff_ne_none.2 some)).1
    have written (w : WriteSlot) (ks : List Nat) : (s.writeChunks e w olds ups ks).Responds := by
      rw [State.writeChunks_frame]
      exact { h with }
    have effect : (s.accessEffect e olds ups).Responds ∧ (s.accessEffect e olds ups).sched = s.sched := by
      refine ⟨?_, by rw [State.accessEffect_frame]⟩
      unfold State.accessEffect
      split
      next k => exact absurd k read
      next =>
        split
        · unfold State.writeDone
          dsimp only
          split
          · exact (written _ _).readyPlace _ _ (by simp)
          · exact written _ _
        · exact h
    exact leave _ (effect.1.removeEntry (effect.2 ▸ mem) none)

end State.Responds

/-- Every operation keeps the correspondences. -/
theorem kept_responds : Kept State.Responds where
  link _ _ h := { h with }
  lane _ _ h := { h with }
  pin _ _ h := { h with }
  clock _ _ h := { h with }
  draws _ _ h := { h with }
  replyHold _ _ h := { h with }
  cancelHold _ _ h := { h with }
  idle _ _ h := { h with }
  mgmt _ _ active staged _ h :=
    { h with
      active := fun r => active ▸ h.active r
      staged := fun r => staged ▸ h.staged r }
  setStaged _ obj v _ h := { h with staged := h.staged.setValue obj v }
  discard _ h := { h with staged := h.active }
  setCommit _ _ _ h := { h with }
  commitHalt _ h := { h with }
  drainHalt _ h := { h with }
  withdrawDrainHalt s h := by rw [State.withdrawDrainHalt_frame]; exact { h with }
  commitPoint _ _ h := h.commitPoint
  halted _ _ _ h := { h with }
  holdReq _ _ h := { h with }
  hold s _ h := by rw [State.issueHold_frame]; exact { h with }
  wake s h := by rw [State.wake_frame]; exact { h with }
  issue _ _ chosen h := h.issue chosen
  lose _ h := h.loseSession
  restart s _ := (State.Responds.beginReset s).endReset _
  admits s k body q w checks h := h.admitRequest (State.tableChecks_ok.1 (State.admissionChecks_ok checks).2.2)
  cancel s e mem _ waiting h := by
    have none : e.respSlot = none := by
      by_contra some
      have := ((h.reads.holds e mem).1 (Option.isSome_iff_ne_none.2 some)).2
      rw [waiting] at this
      cases this
    exact (h.removeEntry mem none).readyPlace _ _ (by simp)
  release s r p _ hp _ h := by
    have mem : p ∈ s.resp.orders.get r := candidateIn_mem hp
    unfold State.releasePlace
    dsimp only
    split
    next st i bad data =>
      obtain ⟨o, d, rs, lp, filled, -⟩ := h.places r p mem st i bad data
      exact { h with
        tags := h.tags.release r p.tag
        reads := h.reads.setSlot (by simp [filled]) (by simp)
        places := h.places.release h.tags mem data }
    next =>
      exact { h with
        tags := h.tags.release r p.tag
        places := h.places.setOrder r fun q hq => .inl (List.mem_of_mem_eraseP hq) }
  tInit s _ h := by rw [State.leaveIdleMode_frame]; exact { h with }
  tExit s _ h := by rw [State.leaveIdleMode_frame]; exact { h with }
  tOa _ _ _ h := { h with }
  tDwell _ _ h := { h with }
  tWrec _ _ h := { h with }
  tClose _ _ _ h := { h with }
  tRen _ _ _ h := { h with }
  completeBank _ _ _ _ h := { h with }
  tick s t _ h := by
    rw [State.tickRecords_frame]
    exact { h with }
  lapses _ _ h := { h with }

/-- Settles O55: every operation keeps the correspondences, and an access completion passes a read's slot from its entry
to its place. -/
theorem stepKeepsResponses : Obligations.StepKeepsResponses := by
  unfold Obligations.StepKeepsResponses
  refine step_keeps (P := State.ResponseOk) (fun _ _ h => h) (fun _ _ h => h) fun c s t h step => ?_
  rw [State.responseOk_iff] at *
  rcases exec_cases step with rfl | x | ⟨-, x⟩
  · exact h
  · exact kept_responds.pinEffect x (fun _ => State.Responds.beginReset s) (fun kind _ => h.endReset kind) h
  · exact kept_responds.effect x (.inr fun s b e olds ups issued h => h.completes issued olds ups) h

end Sys2Proof.Machine
end

section
/-! PROOFS. Bytes and their fields, the form of a data request (O20), and its translation into the array (O12). -/

namespace Sys2Proof.Machine

/-! ### bytes -/

@[simp] theorem byteOf_toNat (b : Byte) : byteOf b.toNat = b := BitVec.ofNat_toNat 8 b

@[simp] theorem toNat_byteOf (n : Nat) : (byteOf n).toNat = n % 256 := rfl

/-- A field of one byte; beyond the end it is 0. -/
theorem fieldAt_one (v : List Byte) (i : Nat) : fieldAt v i 1 = (v.getD i 0).toNat := by
  rw [fieldAt, List.getD_eq_getElem?_getD]
  by_cases h : i < v.length
  · rw [List.drop_eq_getElem_cons h, List.take_succ_cons, List.take_zero, List.getElem?_eq_getElem h]
    exact Nat.zero_add _
  · rw [List.drop_of_length_le (by omega), List.getElem?_eq_none (by omega)]
    rfl

theorem fieldAt_one_of {v : List Byte} {i : Nat} {b : Byte} (h : v[i]? = some b) : fieldAt v i 1 = b.toNat := by
  rw [fieldAt_one, List.getD_eq_getElem?_getD, h, Option.getD_some]

theorem getElem?_of_fieldAt {v : List Byte} {i : Nat} (h : i < v.length) : v[i]? = some (byteOf (fieldAt v i 1)) := by
  rw [fieldAt_one_of (List.getElem?_eq_getElem h), byteOf_toNat, List.getElem?_eq_getElem h]

/-! ### codes -/

theorem sizeOfCode_eq_some {b : Byte} {sz : BlockSize} : sizeOfCode b = some sz ↔ b = sz.code := by
  unfold sizeOfCode
  constructor
  · intro h
    split at h
    · cases h; assumption
    · split at h
      · cases h; assumption
      · split at h
        · cases h; assumption
        · split at h
          · cases h; assumption
          · cases h
  · rintro rfl
    cases sz <;> rfl

theorem priorityOfCode_eq_some {b : Byte} {pr : Priority} :
    priorityOfCode b = some pr ↔ b = if pr = .expedited then 1 else 0 := by
  unfold priorityOfCode
  constructor
  · intro h
    split at h
    · cases h; assumption
    · split at h
      · cases h; assumption
      · cases h
  · rintro rfl
    cases pr <;> rfl

/-! ### enables -/

theorem bitsOf_getElem? (b : Byte) {n : Nat} (h : n < 8) : (bitsOf b)[n]? = some (b.getLsbD n) := by
  simp [bitsOf, h]

/-- The enables that bytes carry, least significant bit first. -/
theorem flatMap_bitsOf_getElem? (l : List Byte) (n : Nat) :
    (l.flatMap bitsOf)[n]? = (l[n / 8]?).map fun b => b.getLsbD (n % 8) := by
  induction l generalizing n with
  | nil => simp
  | cons b bs ih =>
    have eight : (bitsOf b).length = 8 := by simp [bitsOf]
    rw [List.flatMap_cons]
    by_cases low : n < 8
    · rw [List.getElem?_append_left (by omega), bitsOf_getElem? b low, Nat.div_eq_of_lt low, Nat.mod_eq_of_lt low]
      rfl
    · rw [List.getElem?_append_right (by omega), eight, ih]
      have : n / 8 = (n - 8) / 8 + 1 := by omega
      rw [this, List.getElem?_cons_succ]
      have : n % 8 = (n - 8) % 8 := by omega
      rw [this]

theorem length_flatMap_bitsOf (l : List Byte) : (l.flatMap bitsOf).length = l.length * 8 := by
  induction l with
  | nil => rfl
  | cons b bs ih =>
    rw [List.flatMap_cons, List.length_append, ih, List.length_cons]
    simp [bitsOf]
    omega

/-! ### the form of a data request (R51) -/

/-- R51, R193: what the body of a request has where it is well formed. -/
structure ReqForm (k : ReqKind) (body : List Byte) (q : DataReq) : Prop where
  header : 9 ≤ body.length
  requester : fieldAt body 0 1 = q.requester.val
  tag : q.tag = byteOf (fieldAt body 1 1)
  address : q.address = fieldAt body 2 5
  size : byteOf (fieldAt body 7 1) = q.size.code
  priority : byteOf (fieldAt body 8 1) = if q.priority = .expedited then 1 else 0
  whole : q.address % 32 = 0
  aligned : k ≠ .read → q.address % (q.size.chunks * 32) = 0
  length : body.length = 9 + reqDataLen k q.size + reqEnableLen k q.size
  data : q.data = (body.drop 9).take (reqDataLen k q.size)
  enables : q.enables = reqEnables k q.size body

theorem parseReq_eq_some {k : ReqKind} {body : List Byte} {q : DataReq} : parseReq k body = some q ↔ ReqForm k body q := by
  unfold parseReq
  dsimp only
  constructor
  · intro h
    split at h
    next => cases h
    next header =>
      split at h
      next hr =>
        split at h
        next sz pr size priority =>
          split at h
          next => cases h
          next whole =>
            split at h
            next => cases h
            next aligned =>
              split at h
              next => cases h
              next length =>
                cases h
                exact ⟨by omega, rfl, rfl, rfl, sizeOfCode_eq_some.1 size, priorityOfCode_eq_some.1 priority,
                  by simpa using whole, fun write => by simpa [write] using aligned, by simpa using length, rfl, rfl⟩
        next => cases h
      next => cases h
  · rintro ⟨header, requester, tag, address, size, priority, whole, aligned, length, data, enables⟩
    obtain ⟨r, t, a, sz, pr, d, es⟩ := q
    dsimp only at *
    subst tag address data enables
    have small : fieldAt body 0 1 < 16 := requester ▸ r.2
    have same : (⟨fieldAt body 0 1, small⟩ : Fin 16) = r := Fin.ext requester
    rw [if_neg (by omega), dif_pos small, sizeOfCode_eq_some.2 size, priorityOfCode_eq_some.2 priority]
    dsimp only
    rw [if_neg (by simpa using whole), if_neg (fun both => both.2 (aligned both.1)), if_neg (by simpa using length), same]

/-- R51: the data and the enables of a write. -/
theorem ReqForm.write_lengths {k : ReqKind} {body : List Byte} {q : DataReq} (h : ReqForm k body q) (write : k ≠ .read) :
    q.data.length = q.size.chunks * 32 ∧ q.enables.length = q.size.chunks * 32 := by
  have length := h.length
  rw [h.data, h.enables]
  cases k with
  | read => exact absurd rfl write
  | write =>
    simp only [reqDataLen, reqEnableLen, reqEnables] at *
    simp
    omega
  | masked =>
    simp only [reqDataLen, reqEnableLen, reqEnables, length_flatMap_bitsOf] at *
    simp
    omega

/-- Settles O20: the form is what the parser tests, and a body built of the fields has it. -/
theorem requestForm : Obligations.RequestForm := by
  refine ⟨fun _ => rfl, fun _ _ _ => rfl, rfl, fun k body => ⟨fun q parsed => ?_, ?_⟩⟩
  · have h := parseReq_eq_some.1 parsed
    have header := h.header
    have length := h.length
    refine ⟨?_, ?_, h.address, ?_, ?_, h.whole, h.aligned, ?_, ?_, ?_, ?_⟩
    · rw [getElem?_of_fieldAt (by omega), h.requester]
    · rw [getElem?_of_fieldAt (by omega), h.tag]
    · rw [getElem?_of_fieldAt (by omega), h.size]
    · rw [getElem?_of_fieldAt (by omega), h.priority]
    · rintro rfl
      exact ⟨length, by rw [h.data]; rfl⟩
    · intro write
      refine ⟨?_, h.write_lengths write⟩
      rw [h.data]
      cases k <;> first | exact absurd rfl write | rfl
    · rintro rfl
      exact ⟨length, fun n hn => by rw [h.enables]; simp [reqEnables, reqDataLen, hn]⟩
    · rintro rfl
      simp only [reqDataLen, reqEnableLen] at length
      refine ⟨by omega, fun n hn => ?_⟩
      have inside : 9 + q.size.chunks * 32 + n / 8 < body.length := by omega
      refine ⟨body[9 + q.size.chunks * 32 + n / 8], List.getElem?_eq_getElem inside, ?_⟩
      rw [h.enables, reqEnables, flatMap_bitsOf_getElem?, List.getElem?_drop, List.getElem?_eq_getElem inside]
      rfl
  · rintro r tag sz pr address tail built five whole aligned tailLength
    obtain ⟨a, b, c, d, e, rfl⟩ : ∃ a b c d e, address = [a, b, c, d, e] := by
      match address, five with
      | [a, b, c, d, e], _ => exact ⟨a, b, c, d, e, rfl⟩
    have first : (byteOf r.val).toNat = r.val := Nat.mod_eq_of_lt (by omega)
    refine ⟨{ requester := r, tag := tag, address := natOfBytes [a, b, c, d, e], size := sz, priority := pr
              data := (body.drop 9).take (reqDataLen k sz), enables := reqEnables k sz body },
      parseReq_eq_some.2 ⟨by simp [built], ?_, ?_, by rw [built]; rfl, ?_, ?_, whole, aligned, ?_, rfl, rfl⟩,
      rfl, rfl, rfl, rfl, rfl⟩
    · rw [fieldAt_one, built]
      exact first
    · rw [fieldAt_one, built]
      exact (byteOf_toNat tag).symm
    · rw [fieldAt_one, built]
      exact byteOf_toNat _
    · rw [fieldAt_one, built]
      exact byteOf_toNat _
    · cases k <;> simp only [reqDataLen, reqEnableLen] at * <;> simp [built, tailLength] <;> omega

/-! ### translation (R2, R34, R35) -/

theorem div_block {p c n : Nat} (sz : BlockSize) (hc : c = sz.chunks) (aligned : p % c = 0) (hn : n < c) :
    (p + n) / 64 = p / 64 ∧ (p + n) % 64 = p % 64 + n ∧ p % 64 + c ≤ 64 := by
  subst hc
  cases sz <;> simp only [BlockSize.chunks] at * <;> omega

/-- R2: chunk numbers that share a page of a bank under one map mode share it under both. -/
theorem bankOf_congr (m : MapMode) {p q : Nat} (same : q / 64 = p / 64) : bankOf m q = bankOf m p := by
  cases m with
  | bankFirst => exact congrArg (Fin.ofNat 16) same
  | pageFirst => exact congrArg (Fin.ofNat 16) (by omega)

theorem pageOf_congr (m : MapMode) {p q : Nat} (same : q / 64 = p / 64) : pageOf m q = pageOf m p := by
  cases m <;> simp only [pageOf] <;> omega

theorem pageOf_lt (m : MapMode) {p : Nat} (h : p < 33554432) : pageOf m p < 32768 := by
  cases m <;> simp only [pageOf] <;> omega

theorem chunkOf_lt (p : Nat) : chunkOf p < 64 := Nat.mod_lt _ (by decide)

theorem bankOf_val (m : MapMode) (p : Nat) :
    (bankOf m p).val = match m with | .bankFirst => p / 64 % 16 | .pageFirst => p / 2097152 % 16 := by
  cases m <;> rfl

/-- R1, R2: under either map mode a physical chunk number is told by its bank, page and chunk in page. -/
theorem eq_of_chunkKey_eq (m : MapMode) {p q : Nat} (hp : p < 33554432) (hq : q < 33554432)
    (same : chunkKey (bankOf m p) (pageOf m p) (chunkOf p) = chunkKey (bankOf m q) (pageOf m q) (chunkOf q)) : p = q := by
  obtain ⟨bank, page, chunk⟩ :=
    chunkKey_inj (pageOf_lt m hp) (pageOf_lt m hq) (chunkOf_lt p) (chunkOf_lt q) same
  have bank := congrArg Fin.val bank
  rw [bankOf_val, bankOf_val] at bank
  cases m <;> simp only [pageOf, chunkOf] at * <;> omega

theorem exists_chunk (m : MapMode) (b : BankNo) {page chunk : Nat} (hp : page < 32768) (hc : chunk < 64) :
    ∃ p, p < 33554432 ∧ bankOf m p = b ∧ pageOf m p = page ∧ chunkOf p = chunk := by
  have := b.2
  cases m with
  | bankFirst =>
    refine ⟨page * 1024 + b.val * 64 + chunk, by omega, Fin.ext ?_, ?_, ?_⟩
    · rw [bankOf_val]; dsimp only; omega
    · simp only [pageOf]; omega
    · simp only [chunkOf]; omega
  | pageFirst =>
    refine ⟨b.val * 2097152 + page * 64 + chunk, by omega, Fin.ext ?_, ?_, ?_⟩
    · rw [bankOf_val]; dsimp only; omega
    · simp only [pageOf]; omega
    · simp only [chunkOf]; omega

theorem blockStart_eq (k : ReqKind) (q : DataReq) :
    blockStart k q = if k = .read then q.address - q.address % (q.size.chunks * 32) else q.address := by
  cases k <;> rfl

theorem Window.contains_iff (w : Window) (start len : Nat) : w.contains start len = true ↔
    w.valid = true ∧ w.logicalBase * 1048576 ≤ start ∧ start + len ≤ (w.logicalBase + 2 ^ w.sizeExp) * 1048576 := by
  rw [Window.contains, Bool.and_eq_true, Bool.and_eq_true, decide_eq_true_eq, decide_eq_true_eq, and_assoc]
  exact Iff.rfl

/-- R34, R51: a block starts at a multiple of its own size, at or below the address, which lies in its first chunk's
place. -/
theorem ReqForm.start {k : ReqKind} {body : List Byte} {q : DataReq} (h : ReqForm k body q) :
    blockStart k q % (q.size.chunks * 32) = 0 ∧ blockStart k q ≤ q.address ∧
      q.address < blockStart k q + q.size.chunks * 32 := by
  have pos : 0 < q.size.chunks * 32 := by have := q.size.chunks_pos; omega
  rw [blockStart_eq]
  split
  next read =>
    have := Nat.mod_lt q.address pos
    have := Nat.mod_add_div q.address (q.size.chunks * 32)
    refine ⟨?_, by omega, by omega⟩
    rw [show q.address - q.address % (q.size.chunks * 32) = q.size.chunks * 32 * (q.address / (q.size.chunks * 32)) by omega]
    exact Nat.mul_mod_right _ _
  next write => exact ⟨h.aligned write, le_rfl, by omega⟩

/-- R35, R41: a block in a window that ends at or below 1024 MiB, in physical chunk numbers. -/
structure Window.Places (w : Window) (start c p : Nat) : Prop where
  bytes : p * 32 = w.physicalBase * 1048576 + (start - w.logicalBase * 1048576)
  aligned : p % c = 0
  inside : p + c ≤ 33554432

theorem Window.places (w : Window) {start : Nat} (sz : BlockSize) (contains : w.contains start sz.bytes = true)
    (fits : w.physicalBase + 2 ^ w.sizeExp ≤ 1024) (aligned : start % (sz.chunks * 32) = 0) :
    w.Places start sz.chunks (w.translate start) := by
  obtain ⟨-, low, high⟩ := (w.contains_iff start sz.bytes).1 contains
  generalize 2 ^ w.sizeExp = size at *
  rw [show sz.bytes = sz.chunks * 32 from rfl] at high
  constructor
  all_goals
    simp only [Window.translate, mib]
    cases sz <;> simp only [BlockSize.chunks] at * <;> omega

/-- Settles O12: what each word computes, the two map modes one to one, and a block that a window contains. -/
theorem translationStaysInArray : Obligations.TranslationStaysInArray := by
  refine ⟨fun p hp => ⟨rfl, rfl, ?_, rfl, rfl⟩, ⟨rfl, fun _ => rfl, blockStart_eq, Window.contains_iff⟩,
    fun m => ⟨fun p hp => ⟨pageOf_lt m hp, chunkOf_lt p, chunkKey_lt (pageOf_lt m hp) (chunkOf_lt p)⟩,
      fun p q => eq_of_chunkKey_eq m, fun b page chunk => exists_chunk m b⟩, ?_⟩
  · rw [bankOf_val]
    dsimp only
    omega
  · intro m k body q w parsed contains fits
    obtain ⟨aligned, below, within⟩ := (parseReq_eq_some.1 parsed).start
    have placed := w.places q.size contains fits aligned
    have pos := q.size.chunks_pos
    have inPage := fun n => div_block q.size rfl placed.aligned (n := n)
    refine ⟨placed.bytes, placed.aligned, placed.inside, pageOf_lt m (by have := placed.inside; omega), (inPage 0 pos).2.2,
      fun n hn => ?_, ?_⟩
    · obtain ⟨page, chunk, -⟩ := inPage n hn
      exact ⟨bankOf_congr m page, pageOf_congr m page, chunk⟩
    · have low := ((w.contains_iff _ _).1 contains).2.1
      have bytes := placed.bytes
      generalize blockStart k q = start at *
      simp only [Window.translate, mib] at *
      omega

end Sys2Proof.Machine
end

section
/-! PROOFS. The stored chunks stay canonical, write slots and writes stay in correspondence, and every entry stays inside the
array (O56). -/

namespace Sys2Proof.Machine

/-! ### the records -/

/-- R57: the writes of the list and the write slots that they own. -/
structure Writes (slots : Table 32 (Option WriteSlot)) (l : List Entry) : Prop where
  holds : ∀ e ∈ l, ∀ i, e.writeSlot = some i → e.kind ≠ .read ∧
    ∃ w, slots.get i = some w ∧ w.owner = e.id ∧ w.data.length = e.size.chunks * 32
  reads : ∀ e ∈ l, e.writeSlot = none → e.kind = .read
  owned : ∀ i w, slots.get i = some w → ∃ e ∈ l, e.id = w.owner ∧ e.writeSlot = some i

structure State.Stores (s : State) : Prop where
  wf : s.array.wf = true
  numbered : Numbered s.sched.nextId s.sched.list
  writes : Writes s.adm.slots s.sched.list
  inArray : ∀ e ∈ s.sched.list, e.InArray
  active : windowsFit s.mgmt.active.windows
  staged : s.mgmt.commit.state ≠ .none → windowsFit s.mgmt.staged.windows

theorem State.entryWriteOk_iff {s : State} {e : Entry} : s.entryWriteOk e = true ↔
    (∀ i, e.writeSlot = some i → e.kind ≠ .read ∧
      ∃ w, s.adm.slots.get i = some w ∧ w.owner = e.id ∧ w.data.length = e.size.chunks * 32) ∧
    (e.writeSlot = none → e.kind = .read) := by
  unfold State.entryWriteOk
  cases e.writeSlot with
  | none => simp
  | some i => cases slot : s.adm.slots.get i <;> simp [slot]

theorem State.writeSlotOwned_iff {s : State} {i : Fin 32} : s.writeSlotOwned i = true ↔
    ∀ w, s.adm.slots.get i = some w → ∃ e ∈ s.sched.list, e.id = w.owner ∧ e.writeSlot = some i := by
  unfold State.writeSlotOwned
  cases s.adm.slots.get i <;> simp

theorem State.arrayOk_iff {s : State} : s.ArrayOk ↔ s.Stores := by
  constructor
  · rintro ⟨wf, ⟨sorted, fresh, entries, slots⟩, inArray, active, staged⟩
    exact ⟨wf, ⟨sorted, fresh⟩, ⟨fun e he => (State.entryWriteOk_iff.1 (entries e he)).1,
      fun e he => (State.entryWriteOk_iff.1 (entries e he)).2, fun i => State.writeSlotOwned_iff.1 (slots i)⟩,
      inArray, active, staged⟩
  · intro h
    exact ⟨h.wf, ⟨h.numbered.sorted, h.numbered.fresh,
      fun e he => State.entryWriteOk_iff.2 ⟨h.writes.holds e he, h.writes.reads e he⟩,
      fun i => State.writeSlotOwned_iff.2 (h.writes.owned i)⟩, h.inArray, h.active, h.staged⟩

/-! ### the list -/

/-- What an entry's place in the array and in the write data buffer read of it. -/
def Entry.stored (e : Entry) : Entry := { e.snapshot with blockedBy := none, tagHeld := false }

section
variable {n : Nat} {slots : Table 32 (Option WriteSlot)} {l l' : List Entry}

theorem Entry.fields_of_stored {e e' : Entry} (h : e'.stored = e.stored) :
    e'.id = e.id ∧ e'.kind = e.kind ∧ e'.writeSlot = e.writeSlot ∧ e'.size = e.size ∧ e'.page = e.page ∧
      e'.first = e.first :=
  ⟨(congrArg Entry.id h :), (congrArg Entry.kind h :), (congrArg Entry.writeSlot h :), (congrArg Entry.size h :),
    (congrArg Entry.page h :), (congrArg Entry.first h :)⟩

theorem inArray_congr (h : ∀ e ∈ l, e.InArray) (kept : ∀ e' ∈ l', ∃ e ∈ l, e.stored = e'.stored) :
    ∀ e' ∈ l', e'.InArray := by
  intro e' he'
  obtain ⟨e, he, same⟩ := kept e' he'
  obtain ⟨-, -, -, size, page, first⟩ := Entry.fields_of_stored same
  exact ⟨page ▸ (h e he).1, size ▸ first ▸ (h e he).2⟩

/-- What an entry carries besides may change, and reads may leave. -/
theorem Writes.congr (h : Writes slots l) (kept : ∀ e' ∈ l', ∃ e ∈ l, e.stored = e'.stored)
    (stay : ∀ e ∈ l, ∃ e' ∈ l', e'.stored = e.stored) : Writes slots l' where
  holds e' he' i slot := by
    obtain ⟨e, he, same⟩ := kept e' he'
    obtain ⟨id, kind, write, size, -, -⟩ := Entry.fields_of_stored same
    rw [← id, ← kind, ← size]
    exact h.holds e he i (write.trans slot)
  reads e' he' none := by
    obtain ⟨e, he, same⟩ := kept e' he'
    obtain ⟨-, kind, write, -, -, -⟩ := Entry.fields_of_stored same
    rw [← kind]
    exact h.reads e he (write.trans none)
  owned i w slot := by
    obtain ⟨e, he, id, own⟩ := h.owned i w slot
    obtain ⟨e', he', same⟩ := stay e he
    obtain ⟨id', -, write, -, -, -⟩ := Entry.fields_of_stored same
    exact ⟨e', he', id'.trans id, write.trans own⟩

theorem Entry.stored_of_unlinked {e e' : Entry} (h : e'.unlinked = e.unlinked) : e'.stored = e.stored :=
  (congrArg Entry.stored h :)

theorem stored_of_relink (l : List Entry) :
    (∀ e' ∈ relink l, ∃ e ∈ l, e.stored = e'.stored) ∧ ∀ e ∈ l, ∃ e' ∈ relink l, e'.stored = e.stored := by
  constructor
  · intro x hx
    obtain ⟨y, hy, same⟩ := mem_of_map_eq (relink_unlinked l) hx
    exact ⟨y, hy, Entry.stored_of_unlinked same⟩
  · intro x hx
    obtain ⟨y, hy, same⟩ := mem_of_map_eq (relink_unlinked l).symm hx
    exact ⟨y, hy, Entry.stored_of_unlinked same⟩

theorem Writes.relink (h : Writes slots l) : Writes slots (relink l) :=
  h.congr (stored_of_relink l).1 (stored_of_relink l).2

/-- R57: an entry leaves, and its write slot becomes free. -/
theorem Writes.remove (h : Writes slots l) (numbered : Numbered n l) {e : Entry} (he : e ∈ l) :
    Writes (match e.writeSlot with | some i => slots.set i none | none => slots)
      (Machine.relink (l.filter fun x => x.id ≠ e.id)) := by
  refine Writes.relink ?_
  have left {x : Entry} (hx : x ∈ l.filter fun x => x.id ≠ e.id) : x ∈ l ∧ x.id ≠ e.id := by
    simpa using List.mem_filter.1 hx
  have stays {x : Entry} (hx : x ∈ l) (other : x.id ≠ e.id) : x ∈ l.filter fun x => x.id ≠ e.id :=
    List.mem_filter.2 ⟨hx, by simpa using other⟩
  cases slot : e.writeSlot with
  | none =>
    refine ⟨fun x hx => h.holds x (left hx).1, fun x hx => h.reads x (left hx).1, fun i w held => ?_⟩
    obtain ⟨x, hx, id, own⟩ := h.owned i w held
    refine ⟨x, stays hx fun same => ?_, id, own⟩
    rw [numbered.eq hx he same, slot] at own
    cases own
  | some i =>
    refine ⟨fun x hx j own => ?_, fun x hx => h.reads x (left hx).1, fun j w held => ?_⟩
    · obtain ⟨write, w, held, owner, data⟩ := h.holds x (left hx).1 j own
      refine ⟨write, w, ?_, owner, data⟩
      rw [Table.get_set_ne]
      · exact held
      · rintro rfl
        obtain ⟨-, w', held', owner', -⟩ := h.holds e he j slot
        cases held.symm.trans held'
        exact (left hx).2 (owner.symm.trans owner')
    · by_cases here : j = i
      · subst here
        rw [Table.get_set_same] at held
        cases held
      · rw [Table.get_set_ne _ _ here] at held
        obtain ⟨x, hx, id, own⟩ := h.owned j w held
        refine ⟨x, stays hx fun same => ?_, id, own⟩
        rw [numbered.eq hx he same, slot] at own
        exact here (Option.some.inj own).symm

/-- R56: a read joins the list. -/
theorem Writes.appendRead (h : Writes slots l) {e : Entry} (read : e.kind = .read) (none : e.writeSlot = none) :
    Writes slots (l ++ [e]) where
  holds x hx i slot := by
    rcases List.mem_append.1 hx with hx | hx
    · exact h.holds x hx i slot
    · rw [List.mem_singleton.1 hx, none] at slot
      cases slot
  reads x hx none := by
    rcases List.mem_append.1 hx with hx | hx
    · exact h.reads x hx none
    · rw [List.mem_singleton.1 hx]
      exact read
  owned i w held := by
    obtain ⟨x, hx, own⟩ := h.owned i w held
    exact ⟨x, List.mem_append_left _ hx, own⟩

/-- R56: a write joins the list, and takes a free slot. -/
theorem Writes.appendWrite (h : Writes slots l) {e : Entry} (write : e.kind ≠ .read) {i : Fin 32}
    (slot : e.writeSlot = some i) (free : slots.get i = none) {w : WriteSlot} (owner : w.owner = e.id)
    (data : w.data.length = e.size.chunks * 32) : Writes (slots.set i (some w)) (l ++ [e]) where
  holds x hx j own := by
    rcases List.mem_append.1 hx with hx | hx
    · obtain ⟨kind, v, held, rest⟩ := h.holds x hx j own
      refine ⟨kind, v, ?_, rest⟩
      rw [Table.get_set_ne]
      · exact held
      · rintro rfl
        cases free.symm.trans held
    · have same := List.mem_singleton.1 hx
      subst same
      cases slot.symm.trans own
      exact ⟨write, w, Table.get_set_same _ _ _, owner, data⟩
  reads x hx none := by
    rcases List.mem_append.1 hx with hx | hx
    · exact h.reads x hx none
    · rw [List.mem_singleton.1 hx, slot] at none
      cases none
  owned j v held := by
    by_cases here : j = i
    · subst here
      rw [Table.get_set_same] at held
      cases held
      exact ⟨e, by simp, owner.symm, slot⟩
    · rw [Table.get_set_ne _ _ here] at held
      obtain ⟨x, hx, own⟩ := h.owned j v held
      exact ⟨x, List.mem_append_left _ hx, own⟩

theorem slotAtLoss_eq_some {x : Option WriteSlot} {w : WriteSlot} : slotAtLoss l x = some w ↔
    x = some w ∧ ∀ e ∈ l, ¬(e.id = w.owner ∧ e.state = .waiting) := by
  unfold slotAtLoss
  cases x with
  | none => simp
  | some v =>
    by_cases waits : (l.any fun e => e.id = v.owner && e.state = .waiting) = true
    · dsimp only
      rw [if_pos waits]
      simp only [List.any_eq_true, Bool.and_eq_true, decide_eq_true_eq] at waits
      obtain ⟨e, he, waits⟩ := waits
      simp only [reduceCtorEq, Option.some.injEq, false_iff, not_and]
      rintro rfl all
      exact all e he waits.1 waits.2
    · dsimp only
      rw [if_neg waits]
      simp only [List.any_eq_true, Bool.and_eq_true, decide_eq_true_eq, not_exists, not_and] at waits
      constructor
      · rintro ⟨⟩
        exact ⟨rfl, fun e he both => waits e he both.1 both.2⟩
      · exact fun h => h.1

theorem mem_sessionList_base {x : Entry}
    (hx : x ∈ (l.filter fun e => e.state = .issued).map fun e => { e with tagHeld := false }) :
    ∃ y ∈ l, y.state = .issued ∧ { y with tagHeld := false } = x := by
  obtain ⟨y, hy, rfl⟩ := List.mem_map.1 hx
  obtain ⟨mem, issued⟩ := List.mem_filter.1 hy
  exact ⟨y, mem, by simpa using issued, rfl⟩

/-- R57, R64: the writes in progress at a session loss keep their slots. -/
theorem Writes.lose (h : Writes slots l) (numbered : Numbered n l) :
    Writes (slots.mapIdx fun _ w => slotAtLoss l w) (sessionList l) := by
  refine Writes.relink ⟨fun x hx i slot => ?_, fun x hx none => ?_, fun i w held => ?_⟩
  · obtain ⟨y, hy, issued, rfl⟩ := mem_sessionList_base hx
    obtain ⟨write, w, held, owner, data⟩ := h.holds y hy i slot
    refine ⟨write, w, ?_, owner, data⟩
    rw [Table.get_mapIdx, slotAtLoss_eq_some]
    refine ⟨held, fun e he both => ?_⟩
    rw [numbered.eq he hy (both.1.trans owner), issued] at both
    cases both.2
  · obtain ⟨y, hy, -, rfl⟩ := mem_sessionList_base hx
    exact h.reads y hy none
  · rw [Table.get_mapIdx, slotAtLoss_eq_some] at held
    obtain ⟨x, hx, id, own⟩ := h.owned i w held.1
    have issued : x.state = .issued := by
      cases state : x.state with
      | issued => rfl
      | waiting => exact absurd ⟨id, state⟩ (held.2 x hx)
    exact ⟨{ x with tagHeld := false }, List.mem_map.2 ⟨x, List.mem_filter.2 ⟨hx, by simp [issued]⟩, rfl⟩, id, own⟩

theorem inArray_sessionList (h : ∀ e ∈ l, e.InArray) : ∀ e ∈ sessionList l, e.InArray := by
  unfold sessionList
  refine inArray_congr (fun x hx => ?_) (stored_of_relink _).1
  obtain ⟨y, hy, -, rfl⟩ := mem_sessionList_base hx
  exact h y hy

theorem inArray_remove (h : ∀ e ∈ l, e.InArray) (p : Entry → Bool) :
    ∀ e ∈ Machine.relink (l.filter p), e.InArray :=
  inArray_congr (l := l.filter p) (fun x hx => h x (List.mem_filter.1 hx).1) (stored_of_relink _).1

end

/-! ### windows (R41) -/

theorem windowsFit_iff_badFit {t : Table 32 Window} : windowsFit t ↔ badFit t = none := by
  simp [badFit, windowsFit]

theorem windowsFit_of_validate {o : Objects} (h : validate o = none) : windowsFit o.windows := by
  rw [windowsFit_iff_badFit]
  unfold validate at h
  split at h
  next => cases h
  next =>
    split at h
    next => cases h
    next =>
      split at h
      next => cases h
      next =>
        split at h
        all_goals first | cases h | assumption

theorem windowsFit_reset : windowsFit Objects.reset.windows := by
  intro i valid
  simp [Objects.reset, Window.reset] at valid

/-! ### the chunks of an access -/

section
variable {s : State} {e : Entry}

theorem Entry.InArray.place (h : e.InArray) {k : Nat} (hk : k < e.size.chunks) : e.page < 32768 ∧ e.first + k < 64 :=
  ⟨h.1, by have := h.2; omega⟩

theorem State.readChunks_wf (h : s.array.wf = true) (inArray : e.InArray) (ups : List Upset) {ks : List Nat}
    (block : ∀ k ∈ ks, k < e.size.chunks) : (s.readChunks e ups ks).2.array.wf = true := by
  induction ks generalizing s with
  | nil => exact h
  | cons k ks ih =>
    obtain ⟨page, chunk⟩ := inArray.place (block k (by simp))
    refine ih ?_ fun x hx => block x (by simp [hx])
    have disturbed := State.wf_disturbChunk h page chunk ups
    unfold State.readChunk
    dsimp only
    split <;> (try rw [State.report_frame]) <;> rw [State.orFree_frame] <;> exact disturbed

theorem State.writeChunks_wf (h : s.array.wf = true) (inArray : e.InArray) {w : WriteSlot}
    (data : w.data.length = e.size.chunks * 32) (olds : List (Option Chunk)) (ups : List Upset) {ks : List Nat}
    (block : ∀ k ∈ ks, k < e.size.chunks) : (s.writeChunks e w olds ups ks).array.wf = true := by
  induction ks generalizing s with
  | nil => exact h
  | cons k ks ih =>
    have inside := block k (by simp)
    obtain ⟨page, chunk⟩ := inArray.place inside
    refine ih ?_ fun x hx => block x (by simp [hx])
    unfold State.writeChunk
    dsimp only
    split
    · refine Store.wf_put h (chunkKey_lt page chunk) ?_
      simp only [Chunk.fresh, List.length_take, List.length_drop]
      omega
    · split
      · rw [State.mergeReport_frame, State.orFree_frame]
        exact Store.wf_put h (chunkKey_lt page chunk) (mergeChunk_length _ _ _)
      · exact h

end

theorem State.writeSlotOf_eq_some {s : State} {e : Entry} {w : WriteSlot} :
    s.writeSlotOf e = some w ↔ ∃ i, e.writeSlot = some i ∧ s.adm.slots.get i = some w := by
  unfold State.writeSlotOf
  cases e.writeSlot <;> simp

/-! ### the operations -/

/-- R60: an issue gives out no sequence number. -/
theorem State.issue_nextId (s : State) (c : Cand) : (s.issue c).sched.nextId = s.sched.nextId := by
  have reserve (s : State) (e : Entry) : (s.reserveSlot e).sched.nextId = s.sched.nextId := by
    unfold State.reserveSlot
    split
    · split <;> rfl
    · rfl
  unfold State.issue
  split
  · rfl
  · unfold State.issueAccess
    exact reserve _ _
  · rfl
  · rfl

/-- R98: an overrun forgets a bank's contents. -/
theorem State.overruns_wf {s : State} (h : s.array.wf = true) : s.overruns.array.wf = true := by
  have fold (bs : List BankNo) (s : State) (h : s.array.wf = true) : (bs.foldl State.overrun s).array.wf = true := by
    induction bs generalizing s with
    | nil => exact h
    | cons b bs ih =>
      refine ih _ ?_
      rw [State.overrun, State.report_frame]
      exact Store.wf_decay h b
  exact fold _ s h

namespace State.Stores
variable {s : State}

/-- The list may change in what an entry's storage does not read. -/
theorem setList (h : s.Stores) {l : List Entry} (same : l.map Entry.snapshot = s.sched.list.map Entry.snapshot) :
    (s.setList l).Stores := by
  have stored {e e' : Entry} (h : e'.snapshot = e.snapshot) : e'.stored = e.stored :=
    (congrArg (fun x : Entry => { x with blockedBy := none, tagHeld := false }) h :)
  have kept (x : Entry) (hx : x ∈ l) : ∃ y ∈ s.sched.list, y.stored = x.stored := by
    obtain ⟨y, hy, e⟩ := mem_of_map_eq same hx
    exact ⟨y, hy, stored e⟩
  have stay (x : Entry) (hx : x ∈ s.sched.list) : ∃ y ∈ l, y.stored = x.stored := by
    obtain ⟨y, hy, e⟩ := mem_of_map_eq same.symm hx
    exact ⟨y, hy, stored e⟩
  have ids : l.map Entry.id = s.sched.list.map Entry.id := by
    have := congrArg (List.map Entry.id) same
    rwa [List.map_map, List.map_map] at this
  exact { h with
    numbered := h.numbered.congr ids
    writes := h.writes.congr kept stay
    inArray := inArray_congr h.inArray kept }

theorem issue (h : s.Stores) (c : Cand) : (s.issue c).Stores := by
  have listed := h.setList (State.issue_snapshot s c)
  rw [State.issue_frame]
  exact { listed with numbered := (State.issue_nextId s c).symm ▸ listed.numbered }

theorem commitPoint (h : s.Stores) (fits : s.mgmt.commit.state ≠ .none ∨ validate s.mgmt.staged = none) :
    s.commitPoint.Stores := by
  have snapshots : (s.sched.list.map (promote s.mgmt.staged)).map Entry.snapshot = s.sched.list.map Entry.snapshot := by
    rw [List.map_map]
    refine List.map_congr_left fun e _ => ?_
    simp only [Function.comp_apply, promote]
    split <;> rfl
  have listed := h.setList snapshots
  have kept : s.arrayAtCommit.wf = true := by
    unfold State.arrayAtCommit
    split
    · exact h.wf
    · exact Store.wf_decayWhere h.wf _
  rw [State.commitPoint_frame]
  exact { listed with
    wf := kept
    active := fits.elim h.staged windowsFit_of_validate
    staged := fun busy => absurd rfl busy }

theorem loseSession (h : s.Stores) : s.loseSession.Stores := by
  simp only [State.loseSession]
  rw [State.report_frame]
  exact { h with
    numbered := h.numbered.sublist (by
      dsimp only [sessionList]
      rw [relink_ids, List.map_map]
      exact List.filter_sublist.map _)
    writes := h.writes.lose h.numbered
    inArray := inArray_sessionList h.inArray }

theorem beginReset (h : s.array.wf = true) : s.beginReset.Stores where
  wf := by
    show (s.arrayAtReset s.startKind).wf = true
    unfold State.arrayAtReset
    split
    · rfl
    · exact h
  numbered := ⟨.nil, by simp [State.beginReset, Sched.reset]⟩
  writes := by constructor <;> simp [State.beginReset, Sched.reset, Admission.reset]
  inArray := by simp [State.beginReset, Sched.reset]
  active := windowsFit_reset
  staged _ := windowsFit_reset

theorem endReset (h : s.Stores) (kind : StartKind) : (s.endReset kind).Stores := by
  rw [State.endReset_frame]
  exact { h with }

/-- R88, R70: an entry leaves the list, with its write slot. -/
theorem removeEntry (h : s.Stores) {e : Entry} (mem : e ∈ s.sched.list) : ((s.freeWriteSlot e).removeEntry e).Stores := by
  have slots : (s.freeWriteSlot e).adm.slots =
      match e.writeSlot with | some i => s.adm.slots.set i none | none => s.adm.slots := by
    unfold State.freeWriteSlot
    cases e.writeSlot <;> rfl
  have writes := h.writes.remove h.numbered mem
  rw [← slots] at writes
  rw [State.freeWriteSlot_frame]
  exact { h with
    numbered := h.numbered.relink_filter _
    writes := writes
    inArray := inArray_remove h.inArray _ }

/-- R56, R58: an admitted request's entry lies in the array, and a write takes a free slot. -/
theorem admitRequest (h : s.Stores) {k : ReqKind} {body : List Byte} {q : DataReq} {w : Window}
    (checks : s.admissionChecks k body = .ok (q, w)) : (s.admitRequest k q w).Stores := by
  obtain ⟨-, parsed, tables⟩ := State.admissionChecks_ok checks
  have form := parseReq_eq_some.1 parsed
  have fits := State.tableChecks_ok.1 tables
  have inside : (s.newEntry k q w).InArray := by
    have found : s.mgmt.active.windows.rows.find? (fun w => w.contains (blockStart k q) q.size.bytes) = some w := fits.window
    have contains : w.contains (blockStart k q) q.size.bytes = true := by
      simpa using List.find?_some found
    obtain ⟨i, hi⟩ : ∃ i, s.mgmt.active.windows.get i = w := by
      obtain ⟨n, hn, e⟩ := List.getElem_of_mem (List.mem_of_find?_eq_some found)
      exact ⟨⟨n, s.mgmt.active.windows.len ▸ hn⟩, e⟩
    have valid := ((w.contains_iff _ _).1 contains).1
    have placed := w.places q.size contains (hi ▸ h.active i (hi ▸ valid)) form.start.1
    have pos := q.size.chunks_pos
    have := placed.inside
    exact ⟨pageOf_lt _ (by omega), (div_block q.size rfl placed.aligned pos).2.2⟩
  unfold State.admitRequest
  dsimp only
  have read_slot : k = .read → (s.newEntry k q w).writeSlot = none := fun read => if_pos read
  have done (u : State) (hu : u.Stores) :
      (if (s.newEntry k q w).tagHeld then u.holdTag q
        else { u with adm := { u.adm with replyHold := some (.done q.requester q.tag .ok) } } : State).Stores := by
    split
    · exact { hu with }
    · exact { hu with }
  refine done _ ?_
  have numbered : Numbered (s.sched.nextId + 1) (s.sched.list ++ [s.newEntry k q w]) := h.numbered.append rfl
  have inArray : ∀ e ∈ s.sched.list ++ [s.newEntry k q w], e.InArray := by
    intro e he
    rcases List.mem_append.1 he with he | he
    · exact h.inArray e he
    · rw [List.mem_singleton.1 he]
      exact inside
  by_cases read : k = .read
  · unfold State.fillSlot
    rw [read_slot read]
    exact { h with numbered := numbered, writes := h.writes.appendRead read (read_slot read), inArray := inArray }
  · obtain ⟨i, found⟩ := Table.findIdx?_isSome (fits.slot.resolve_left read)
    have slot : (s.newEntry k q w).writeSlot = some i := by
      rw [← found]
      exact if_neg read
    have free : s.adm.slots.get i = none := by simpa using Table.findIdx?_some found
    unfold State.fillSlot
    rw [slot]
    exact { h with
      numbered := numbered
      writes := h.writes.appendWrite read slot free rfl (form.write_lengths read).1
      inArray := inArray }

/-- R7, R70: an access completes: the array takes what a write stores, and the entry leaves. -/
theorem completes (h : s.Stores) {b : BankNo} {e : Entry} (issued : s.issuedOn b = some e) (olds : List (Option Chunk))
    (ups : List Upset) : ((s.accessEffect e olds ups).completeEntry b e).Stores := by
  have mem : e ∈ s.sched.list := List.mem_of_find?_eq_some issued
  have kept : (s.accessEffect e olds ups).array.wf = true := by
    have block : ∀ k ∈ List.range e.size.chunks, k < e.size.chunks := fun k => List.mem_range.1
    unfold State.accessEffect
    split
    next =>
      dsimp only
      rw [State.readDone_frame]
      exact State.readChunks_wf h.wf (h.inArray e mem) ups block
    next =>
      split
      next w held =>
        obtain ⟨i, slot, get⟩ := State.writeSlotOf_eq_some.1 held
        obtain ⟨-, w', get', -, data⟩ := h.writes.holds e mem i slot
        cases get.symm.trans get'
        dsimp only
        rw [State.writeDone_frame]
        exact State.writeChunks_wf h.wf (h.inArray e mem) data olds ups block
      next => exact h.wf
  have accessed : (s.accessEffect e olds ups).Stores := by
    rw [State.accessEffect_frame]
    exact { h with wf := kept }
  have mem' : e ∈ (s.accessEffect e olds ups).sched.list := by
    rw [State.accessEffect_frame]
    exact mem
  have left := accessed.removeEntry mem'
  exact { left with }

end State.Stores

/-- Every operation keeps the chunks canonical and the entries inside the array. -/
theorem kept_stores : Kept State.Stores where
  link _ _ h := { h with }
  lane _ _ h := { h with }
  pin _ _ h := { h with }
  clock _ _ h := { h with }
  draws _ _ h := { h with }
  replyHold _ _ h := { h with }
  cancelHold _ _ h := { h with }
  idle _ _ h := { h with }
  mgmt _ _ active staged busy h :=
    { h with
      active := active ▸ h.active
      staged := fun committing => staged ▸ h.staged (busy committing) }
  setStaged _ _ _ idle h := { h with staged := fun busy => absurd idle busy }
  discard _ h := { h with staged := fun _ => h.active }
  setCommit _ _ valid h := { h with staged := fun _ => windowsFit_of_validate valid }
  commitHalt _ h := { h with }
  drainHalt _ h := { h with }
  withdrawDrainHalt s h := by rw [State.withdrawDrainHalt_frame]; exact { h with }
  commitPoint _ fits h := h.commitPoint fits
  halted _ _ _ h := { h with }
  holdReq _ _ h := { h with }
  hold s _ h := by rw [State.issueHold_frame]; exact { h with wf := Store.wf_decayWhere h.wf _ }
  wake s h := by rw [State.wake_frame]; exact { h with }
  issue _ c _ h := h.issue c
  lose _ h := h.loseSession
  restart _ h := (State.Stores.beginReset h.wf).endReset _
  admits _ _ _ _ _ checks h := h.admitRequest checks
  cancel _ e mem _ _ h :=
    have left := h.removeEntry mem
    { left with }
  release s r p _ _ _ h := by
    unfold State.releasePlace
    dsimp only
    split <;> exact { h with }
  tInit s _ h := by rw [State.leaveIdleMode_frame]; exact { h with }
  tExit s _ h := by rw [State.leaveIdleMode_frame]; exact { h with }
  tOa _ _ _ h := { h with }
  tDwell _ _ h := { h with }
  tWrec _ _ h := { h with }
  tClose _ _ _ h := { h with }
  tRen _ _ _ h := { h with }
  completeBank _ _ _ _ h := { h with }
  tick s t _ h := by
    have kept := State.overruns_wf h.wf
    rw [State.tickRecords_frame]
    exact { h with wf := kept }
  lapses _ _ h := { h with }

/-- Settles O56: every operation keeps the records, and an access completion stores whole chunks of the entry's block. -/
theorem stepKeepsArray : Obligations.StepKeepsArray := by
  unfold Obligations.StepKeepsArray
  refine ⟨Store.wf_iff, step_keeps (P := State.ArrayOk) (fun _ _ h => h) (fun _ _ h => h) fun c s t h step => ?_⟩
  rw [State.arrayOk_iff] at *
  rcases exec_cases step with rfl | x | ⟨-, x⟩
  · exact h
  · exact kept_stores.pinEffect x (fun _ => (State.Stores.beginReset h.wf)) (fun kind _ => h.endReset kind) h
  · exact kept_stores.effect x (.inr fun s b e olds ups issued h => h.completes issued olds ups) h

end Sys2Proof.Machine
end

section
/-! PROOFS. Resets (O3, O4, O6, O58), the start intervals (O5), the bank timers (O7), the idle close timers and the elapsed
intervals (O8), and the tick (O11). -/

namespace Sys2Proof.Machine

/-! ### what a reset leaves (R172) -/

section
variable {s : State} {kind : StartKind}

theorem State.inReset_beginReset (s : State) : s.beginReset.InReset s.startKind :=
  ⟨rfl, rfl, rfl, rfl, rfl, rfl, rfl, rfl⟩

/-- R131: the link at the end of a reset, by the lane signal. -/
def Link.started (signal : Bool) (now : Nat) : Link :=
  if signal then
    { Link.reset with
      state := .training, offers := 1, offerTimer := some (now + 100000), stateTimer := some (now + 8000000) }
  else Link.reset

/-- R18, R23: the array port at the end of a reset. -/
def Port.started (kind : StartKind) (now : Nat) : Port :=
  match kind with
  | .cold => { Port.reset .cold with tInit := some (now + 200000) }
  | .warm => { Port.reset .warm with mode := .waking, tExit := some (now + 250) }

/-- R172, R190: the management unit at the end of a reset. -/
def Mgmt.started (kind : StartKind) : Mgmt :=
  { Mgmt.reset { state := .starting, stage := none, retainOwed := none, lastStart := kind } with
    counters := (Table.fill 11 0).set 7 1
    notices := [{ number := 0, report := .started kind, dropped := 0 }]
    nextNotice := 1 }

/-- R190: the STARTED record is the first notice. -/
theorem State.report_started (h : s.mgmt = Mgmt.reset { state := .starting, stage := none, retainOwed := none, lastStart := kind }) :
    s.report (.started kind) = { s with mgmt := Mgmt.started kind } := by
  rw [State.report_of_room (by rw [h]; cases kind <;> decide) (by rw [h]; cases kind <;> decide), State.count, h]
  rfl

/-- R18, R23: the array port's start, from reset values; every debt is 0 already. -/
theorem State.startPort_reset (port : s.port = Port.reset kind) (ren : s.ren = RenewalUnit.reset)
    (timing : s.timing = Timing.reset) : s.startPort kind = { s with port := Port.started kind s.now } := by
  cases kind with
  | cold => rw [State.startPort, port]; rfl
  | warm =>
    have zero : (RenewalUnit.reset.records.mapIdx fun _ r => { r with debt := 0 }) = RenewalUnit.reset.records := rfl
    have zeroed (u : State) (h : u.ren = RenewalUnit.reset) : u.zeroDebts = u := by
      rw [State.zeroDebts, h, zero, ← h]
    unfold State.startPort State.wake
    dsimp only
    rw [if_pos (by rw [port]; rfl), zeroed]
    · rw [timing, port]
      rfl
    · exact ren

/-- R172: the end of a reset, from the state that the reset leaves. -/
theorem State.InReset.endReset_eq (h : s.InReset kind) :
    s.endReset kind =
      { s with
        rst := none, link := Link.started s.laneSignal s.now, port := Port.started kind s.now
        mgmt := Mgmt.started kind } := by
  unfold State.endReset
  dsimp only
  have mgmt := h.mgmt
  rw [State.startPort_reset (s := { s with rst := none }) h.port h.ren (by dsimp only [State.timing]; rw [mgmt]; rfl),
    State.report_started (by dsimp only [State.setPart]; rw [mgmt]; rfl)]
  unfold Link.started State.enterTraining
  dsimp only [State.setPart, State.setLink]
  rw [h.link]
  cases s.laneSignal <;> rfl

theorem State.InReset.started (h : s.InReset kind) : (s.endReset kind).Started kind s.array s.now := by
  rw [h.endReset_eq]
  have link : Link.started s.laneSignal s.now = { Link.reset with
      state := (Link.started s.laneSignal s.now).state, offers := (Link.started s.laneSignal s.now).offers
      offerTimer := (Link.started s.laneSignal s.now).offerTimer
      stateTimer := (Link.started s.laneSignal s.now).stateTimer } := by
    unfold Link.started
    split <;> rfl
  rw [link]
  obtain ⟨-, -, adm, sched, -, ren, resp, -⟩ := h
  constructor
  case tags | writeSlots | replyHold => simp [adm, Admission.reset]
  case list | idleTimers | closeMarks | cancelHold => simp [sched, Sched.reset]
  case respSlots | orders => simp [resp, Response.reset]
  case renewal | tickTimer => simp [ren, RenewalUnit.reset]
  case mode | initTimer | exitTimer | history => cases kind <;> rfl
  case banks => intro b; cases kind <;> exact Table.get_fill _ _
  case direction => cases kind <;> exact ⟨rfl, rfl⟩
  case halts => cases kind <;> exact ⟨rfl, rfl, rfl⟩
  case counters =>
    intro i
    by_cases here : i = 7
    · subst here
      rfl
    · rw [if_neg here]
      exact (Table.get_set_ne _ _ here).trans (Table.get_fill _ _)
  case array | commit | status | part | notice | notices => rfl
  case objects | noticeNumbers | arbiter | unsent => exact ⟨rfl, rfl⟩
  case queues | session | rings => exact ⟨rfl, rfl, rfl, rfl⟩
  case linkMarks | linkTimers => exact ⟨rfl, rfl, rfl⟩

/-- A reset that is taken and ends at one instant (R130). -/
theorem State.resetPart_started (s : State) :
    s.resetPart.rst = none ∧ s.resetPart.Started s.startKind (if s.startKind = .warm then s.array else []) s.now := by
  have array : s.beginReset.array = if s.startKind = .warm then s.array else [] := by
    show s.arrayAtReset s.startKind = _
    cases s.startKind <;> rfl
  unfold State.resetPart
  rw [← array]
  exact ⟨by rw [s.inReset_beginReset.endReset_eq], s.inReset_beginReset.started⟩

/-- The reset state is what a cold reset leaves as it ends (log 3). -/
theorem State.resetPart_reset : State.reset.resetPart = State.reset := rfl

end

/-- Settles O58: the reset state is the end of a reset, and a reset leaves every block well kept. -/
theorem resetIsWellKept : Obligations.ResetIsWellKept := by
  unfold Obligations.ResetIsWellKept
  rw [State.responseOk_iff, State.arrayOk_iff]
  refine ⟨⟨Link.ok_iff.2 Link.good_reset, fun reset => by cases reset⟩, ?port, ?debts, ?list, ?responses, ?array, ?mgmt⟩
  case port => exact State.resetPart_reset ▸ ((State.portOk_beginReset State.reset).endReset rfl).portOk
  case debts => exact State.resetPart_reset ▸ (State.debtsOk_beginReset State.reset).endReset _
  case list => exact ⟨by decide, .nil, by simp [State.reset, Sched.reset], rfl⟩
  case responses => exact State.resetPart_reset ▸ (State.Responds.beginReset State.reset).endReset State.reset.startKind
  case array => exact State.resetPart_reset ▸ (State.Stores.beginReset (s := State.reset) rfl).endReset State.reset.startKind
  case mgmt =>
    have reset : State.reset.beginReset.mgmt.Bounds := Mgmt.reset_bounds (by decide) (by decide)
    exact State.resetPart_reset ▸ Mgmt.ok_iff.2 (State.endReset_bounds reset _)

/-- Settles O4: the end of a reset from what a reset leaves, the reset values, and the reset state as such an end. -/
theorem resetRelease : Obligations.ResetRelease := by
  unfold Obligations.ResetRelease
  refine ⟨fun s kind h => ⟨s.endReset kind, ?_, ?_, h.started, ?_⟩, ⟨rfl, fun i => ?_, ?_, fun r other => ?_, rfl⟩,
    fun st => rfl, rfl, rfl, ?_, rfl, rfl, rfl, rfl, rfl⟩
  · show execResetNRelease s = _
    rw [execResetNRelease, h.rst]
  · rw [h.endReset_eq]
  · rw [h.endReset_eq]
    exact ⟨rfl, rfl, rfl, rfl, fun none => by simp [none, Link.started, Link.reset],
      fun signal => by simp [signal, Link.started, Link.reset]⟩
  · exact Table.get_fill _ _
  · rfl
  · exact (Table.get_ofFn _ _).trans (by simp [Requester.reset, other])
  · exact State.resetPart_started State.reset |>.2

/-! ### while RESET_N is asserted -/

/-- R172: while RESET_N is asserted nothing but its release and the lane signal does anything. -/
theorem exec_inReset {s : State} (reset : s.rst.isSome) {c : Instr} (release : c ≠ .resetNRelease)
    (present : c ≠ .laneSignalPresent) (lost : c ≠ .signalLoss) : exec c s = .next s := by
  cases c
  case resetNRelease => exact absurd rfl release
  case laneSignalPresent => exact absurd rfl present
  case signalLoss => exact absurd rfl lost
  all_goals exact congrArg Host.Outcome.next (if_pos reset)

/-- Settles O3: the reset values and the part kept, then that nothing happens until the release. -/
theorem resetAssertion : Obligations.ResetAssertion := by
  unfold Obligations.ResetAssertion
  constructor
  · intro s running
    refine ⟨s.beginReset, State.event_running running, s.inReset_beginReset, rfl, rfl, rfl, rfl, rfl, fun cold => ?_,
      fun warm => ?_⟩
    · show s.arrayAtReset s.startKind = []
      rw [State.startKind, cold]
      rfl
    · show s.arrayAtReset s.startKind = s.array
      rw [State.startKind, warm]
      rfl
  · intro s kind reset
    have asserted : s.rst.isSome := by simp [reset]
    refine ⟨fun c release present lost => exec_inReset asserted release present lost, ?_, ?_⟩
    · show execLaneSignalPresent s = _
      simp [execLaneSignalPresent, reset]
    · show execSignalLoss s = _
      simp [execSignalLoss, reset]

/-! ### RESET_PART (R130) -/

/-! #### control frames (R148, rank 1) -/

section
variable {s : State}

/-- R134: a TRAIN answer waits, and is first. -/
theorem State.sendControl_answer {a : TrainAnswer} {as : List TrainAnswer} (notDown : s.link.state ≠ .down)
    (answers : s.link.answers = a :: as) :
    s.sendControl = some { s with
      txLane := s.laneFrame kindTrain 0 a.body, link := { s.link with answers := as, updateOwed := false } } := by
  unfold State.sendControl
  dsimp only
  rw [if_neg notDown, answers]
  rfl

/-- R134: an offer waits, and no TRAIN answer. -/
theorem State.sendControl_offer (notDown : s.link.state ≠ .down) (answers : s.link.answers = [])
    (offers : 0 < s.link.offers) :
    s.sendControl = some { s with
      txLane := s.laneFrame kindTrain 0 s.link.offerBody
      link := { s.link with offers := s.link.offers - 1, updateOwed := false } } := by
  unfold State.sendControl
  dsimp only
  rw [if_neg notDown, answers]
  dsimp only
  rw [if_pos offers]
  rfl

/-- R148: with no TRAIN waiting, no control frame is sent out of UP. -/
theorem State.sendControl_none (answers : s.link.answers = []) (offers : s.link.offers = 0)
    (notUp : s.link.state ≠ .up) : s.sendControl = none := by
  unfold State.sendControl
  dsimp only
  split
  · rfl
  · split
    next a as waits => rw [answers] at waits; cases waits
    next => exact if_neg (by omega)

/-- R140: a REPLAY waits in UP, and no TRAIN. -/
theorem State.sendControl_replay {n : Byte} {ns : List Byte} (answers : s.link.answers = []) (offers : s.link.offers = 0)
    (up : s.link.state = .up) (replays : s.link.replays = n :: ns) :
    s.sendControl = some { s with
      txLane := s.laneFrame kindReplay 0 [n], link := { s.link with replays := ns, updateOwed := false } } := by
  unfold State.sendControl
  dsimp only
  rw [if_neg (by rw [up]; decide)]
  split
  next a as waits => rw [answers] at waits; cases waits
  next =>
    rw [if_neg (by omega), if_pos up, replays]
    rfl

/-- R141: in UP, with no TRAIN and no REPLAY waiting, an ACK is sent where an update is owed. -/
theorem State.sendControl_ack (answers : s.link.answers = []) (offers : s.link.offers = 0) (up : s.link.state = .up)
    (replays : s.link.replays = []) :
    s.sendControl =
      if s.link.updateOwed then
        some { s with txLane := s.laneFrame kindAck 0 [], link := { s.link with updateOwed := false } }
      else none := by
  unfold State.sendControl
  dsimp only
  rw [if_neg (by rw [up]; decide)]
  split
  next a as waits => rw [answers] at waits; cases waits
  next =>
    rw [if_neg (by omega), if_pos up]
    split
    next n ns waits => rw [replays] at waits; cases waits
    next => rfl

theorem State.select_of_control {t : State} (h : s.sendControl = some t) : s.select = some t := by
  rw [State.select, h]
  rfl

/-- R141: in UP an owed ACK is sent, or a control frame that goes before it. -/
theorem State.select_owed (up : s.link.state = .up) (owed : s.link.updateOwed = true) :
    ∃ line link, s.select = some { s with txLane := line, link := link } ∧
      (s.link.answers = [] → s.link.offers = 0 → s.link.replays = [] → line = s.laneFrame kindAck 0 []) := by
  have notDown : s.link.state ≠ .down := by rw [up]; decide
  cases answers : s.link.answers with
  | cons a as => exact ⟨_, _, State.select_of_control (State.sendControl_answer notDown answers), fun no => by cases no⟩
  | nil =>
    rcases Nat.eq_zero_or_pos s.link.offers with offers | offers
    · cases replays : s.link.replays with
      | cons n ns =>
        exact ⟨_, _, State.select_of_control (State.sendControl_replay answers offers up replays), fun _ _ no => by cases no⟩
      | nil =>
        have ack := (State.sendControl_ack answers offers up replays).trans (if_pos owed)
        exact ⟨_, _, State.select_of_control ack, fun _ _ _ => rfl⟩
    · exact ⟨_, _, State.select_of_control (State.sendControl_offer notDown answers offers), fun _ no => by omega⟩

end

/-- Settles O6: in UP the reset waits for a frame, out of UP it is taken, and the frame sent in UP is the owed ACK where no
other control frame waits. -/
theorem resetPartResets : Obligations.ResetPartResets := by
  unfold Obligations.ResetPartResets
  constructor
  · intro s body rest h passes
    have run : exec .resetPart s = .next ((s.taken rest).doResetPart body (echoFields body)) :=
      h.event_passes passes State.doResetPart
    rw [run]
    refine ⟨fun up => ?_, fun down => ⟨(s.taken rest).resetPart, ?_, (s.taken rest).resetPart_started⟩⟩
    · exact congrArg _ (if_pos up)
    · exact congrArg _ (if_neg down)
  · intro s running waits up owed
    obtain ⟨line, link, sent, ack⟩ := State.select_owed up owed
    let t : State := { s with txLane := line, link := link }
    obtain ⟨ends, started⟩ := t.resetPart_started
    refine ⟨t.resetPart, ?_, ends, started, fun answers offers replays => ?_⟩
    · rw [exec_transmitSelect running, sent]
      exact congrArg _ (if_pos waits)
    · show (t.beginReset.endReset t.startKind).txLane = _
      rw [t.inReset_beginReset.endReset_eq]
      exact ack answers offers replays

/-! ### the start intervals (R18, R23) -/

/-- R18: INIT or WAKING is left, with the tick timer started. -/
theorem State.leaveIdleMode_eq (s : State) :
    s.leaveIdleMode =
      { s with
        port := { s.port with mode := if s.port.commitHalt || s.port.drainHalt then .halting else .run }
        ren := { s.ren with tick := some { at_ := s.now + s.timing.tickPeriod, period := s.timing.tickPeriod } }
        mgmt := { s.mgmt with
          part := { s.mgmt.part with
            state :=
              if (s.port.commitHalt || s.port.drainHalt) = false ∧
                (s.mgmt.part.state = .starting ∨ s.mgmt.part.state = .resuming) then .serving
              else s.mgmt.part.state } } } := by
  unfold State.leaveIdleMode
  dsimp only [State.startTick]
  by_cases halts : s.port.commitHalt = true ∨ s.port.drainHalt = true
  · have halts' : (s.port.commitHalt || s.port.drainHalt) = true := by simpa using halts
    rw [if_pos halts, halts']
    simp [State.setMode]
  · have runs : (s.port.commitHalt || s.port.drainHalt) = false := by simpa using halts
    rw [if_neg halts, runs]
    simp [State.enterRun, State.setMode, State.setPart]

/-- Settles O5: the clock at the instant of the expiry, and the mode as `State.leaveIdleMode_eq` has it. -/
theorem startIntervalsEnd : Obligations.StartIntervalsEnd := by
  unfold Obligations.StartIntervalsEnd
  intro s d running
  constructor
  · intro mode timer
    show execTInitExpiry s = _
    rw [execTInitExpiry, State.event_running running]
    dsimp only
    rw [timer]
    dsimp only
    rw [if_pos mode, State.leaveIdleMode_eq]
    rfl
  · intro mode timer
    show execTExitExpiry s = _
    rw [execTExitExpiry, State.event_running running]
    dsimp only
    rw [timer]
    dsimp only
    rw [if_pos mode, State.leaveIdleMode_eq]
    rfl

/-- Settles O7: each expiry finds its bank in the state it ends, and writes that bank's record. -/
theorem bankTimersExpire : Obligations.BankTimersExpire := by
  unfold Obligations.BankTimersExpire
  refine ⟨fun _ _ => rfl, fun s b d running => ⟨fun state timer => ?_, fun timer => ?_, fun timer => ?_,
    fun state timer => ?_⟩, fun s b d running state timer => ?_⟩
  · show execTOaExpiry b s = _
    rw [execTOaExpiry, State.event_running running]
    simp only [timer, state, if_true]
    rfl
  · show execTDwellExpiry b s = _
    rw [execTDwellExpiry, State.event_running running]
    simp only [timer]
    rfl
  · show execTWrecExpiry b s = _
    rw [execTWrecExpiry, State.event_running running]
    simp only [timer]
    rfl
  · show execTCloseExpiry b s = _
    rw [execTCloseExpiry, State.event_running running]
    simp only [timer, state, if_true]
    rfl
  · show execTRenExpiry b s = _
    rw [execTRenExpiry, State.event_running running]
    simp only [timer, state, if_true]
    have renewed (r : Renewal) : r.renewed = { r with debt := if r.exempt then r.debt else r.debt - 1 } := by
      unfold Renewal.renewed
      split <;> rfl
    simp only [State.renewDone, renewed]
    rfl

theorem State.ooMet_iff (s : State) :
    s.ooMet = true ↔ ∀ t, s.port.history.getLast? = some t → t + s.timing.tOo ≤ s.now := by
  unfold State.ooMet
  cases s.port.history.getLast? <;> simp

theorem State.quadMet_iff (s : State) : s.quadMet = true ↔
    (4 ≤ s.port.history.length → ∀ t, s.port.history.head? = some t → t + s.timing.tQuad ≤ s.now) := by
  unfold State.quadMet
  cases s.port.history with
  | nil => simp
  | cons t ts =>
    simp only [Bool.or_eq_true, decide_eq_true_eq, List.head?_cons, Option.some.injEq, forall_eq']
    omega

theorem State.turnMet_iff (s : State) (d : Direction) : s.turnMet d = true ↔ s.port.direction = .noDir ∨
    s.port.direction = d ∨ ∀ t, s.port.lastAccess = some t → t + s.timing.tTurn ≤ s.now := by
  unfold State.turnMet
  cases s.port.lastAccess <;> simp [or_assoc]

/-- Settles O8: each command moves the clock to the instant at which its test is met. -/
theorem idleCloseAndIntervals : Obligations.IdleCloseAndIntervals := by
  unfold Obligations.IdleCloseAndIntervals
  refine ⟨fun s => ⟨rfl, s.ooMet_iff, s.quadMet_iff, s.turnMet_iff⟩, fun s t running => ⟨fun b idle => ?_, fun last => ?_,
    fun ts history full => ?_, fun last => ?_⟩⟩
  · show execIdleCloseExpiry b s = _
    rw [execIdleCloseExpiry, State.event_running running]
    simp only [idle]
    rfl
  · constructor
    · show execTOoPassed s = _
      rw [execTOoPassed, State.event_running running]
      simp only [last]
      rfl
    · refine (State.ooMet_iff _).2 fun x hx => ?_
      cases last.symm.trans hx
      exact Nat.le_max_right _ _
  · constructor
    · show execTQuadPassed s = _
      rw [execTQuadPassed, State.event_running running]
      split
      next x xs history' =>
        cases history.symm.trans history'
        rw [if_neg full.not_gt]
        rfl
      next none =>
        rw [history] at none
        cases none
    · refine (State.quadMet_iff _).2 fun _ x hx => ?_
      rw [history] at hx
      cases hx
      exact Nat.le_max_right _ _
  · constructor
    · show execTTurnPassed s = _
      rw [execTTurnPassed, State.event_running running]
      simp only [last]
      rfl
    · refine fun d => (State.turnMet_iff _ d).2 (.inr (.inr fun x hx => ?_))
      cases last.symm.trans hx
      exact Nat.le_max_right _ _

/-! ### the tick (R98) -/

theorem State.report_eq (s : State) (r : Report) : s.report r = { s with mgmt := (s.report r).mgmt } := by
  rw [State.report_frame]

/-- What a report does to the management unit depends on that unit alone. -/
theorem State.report_mgmt_congr {s u : State} (same : s.mgmt = u.mgmt) (r : Report) :
    (s.report r).mgmt = (u.report r).mgmt := by
  have counted : (s.count r.counter).mgmt = (u.count r.counter).mgmt := by
    unfold State.count
    rw [same]
  unfold State.report State.offerNotice State.dropNotice
  rw [counted]
  split
  · split
    · rfl
    · unfold State.count
      rw [same]
  · exact counted

theorem State.foldl_report_mgmt_congr {s u : State} (same : s.mgmt = u.mgmt) (rs : List Report) :
    (rs.foldl State.report s).mgmt = (rs.foldl State.report u).mgmt := by
  induction rs generalizing s u with
  | nil => exact same
  | cons r rs ih => exact ih (State.report_mgmt_congr same r)

theorem State.foldl_report_active (s : State) (rs : List Report) :
    (rs.foldl State.report s).mgmt.active = s.mgmt.active := by
  induction rs generalizing s with
  | nil => rfl
  | cons r rs ih => exact (ih _).trans (State.report_mgmt_active s r)

/-- R98: the overruns of some banks, one after the other: their faults, and their contents forgotten. -/
theorem State.foldl_overrun_eq (bs : List BankNo) (s : State) :
    bs.foldl State.overrun s =
      { s with
        array := bs.foldl Store.decay s.array
        mgmt := ((bs.map Report.renewalOverrun).foldl State.report s).mgmt } := by
  induction bs generalizing s with
  | nil => rfl
  | cons b bs ih =>
    have one : s.overrun b = { s with array := s.array.decay b, mgmt := (s.report (.renewalOverrun b)).mgmt } := by
      rw [State.overrun, State.report_eq, State.report_mgmt_congr (s := { s with array := s.array.decay b }) (u := s) rfl]
    rw [List.foldl_cons, ih, one]
    dsimp only [List.map_cons, List.foldl_cons]
    congr 1
    exact State.foldl_report_mgmt_congr
      (s := { s with array := s.array.decay b, mgmt := (s.report (.renewalOverrun b)).mgmt })
      (u := s.report (.renewalOverrun b)) rfl _

/-- R108: which chunks some banks' overruns leave. -/
theorem Store.find_foldl_decay (bs : List BankNo) (m : Store) (b : BankNo) {p k : Nat} (hp : p < 32768) (hk : k < 64) :
    (bs.foldl Store.decay m).find (chunkKey b p k) = if b ∈ bs then none else m.find (chunkKey b p k) := by
  induction bs generalizing m with
  | nil => rfl
  | cons x bs ih =>
    have one : (m.decay x).find (chunkKey b p k) = if b = x then none else m.find (chunkKey b p k) := by
      unfold Store.decay
      rw [Store.find_filter m (fun key => bankOfKey key ≠ x.val), bankOfKey_chunkKey hp hk]
      by_cases same : b = x <;> simp [same, Fin.val_inj]
    rw [List.foldl_cons, ih, one]
    by_cases same : b = x <;> simp [same]

/-- Settles O11: the overruns of the banks whose debt stands at +8, then the records, with the next period. -/
theorem tickRaisesDebts : Obligations.TickRaisesDebts := by
  unfold Obligations.TickRaisesDebts
  intro s t running timer period overran
  refine ⟨((List.finRange 16).filter overran).foldl Store.decay s.array,
    s.ren.records.mapIdx fun _ r => r.ticked, fun b page chunk hp hk => ?_, fun b => ?_, ?_⟩
  · rw [Store.find_foldl_decay _ _ _ hp hk]
    simp
  · rw [Table.get_mapIdx, Renewal.ticked]
    by_cases exempt : (s.ren.records.get b).exempt = true
    · rw [if_pos exempt, if_pos exempt]
    · rw [if_neg exempt, if_neg exempt]
      simp [overran, exempt]
  · show execTick s = _
    rw [execTick, State.event_running running]
    simp only [timer]
    unfold State.tickRecords State.overruns
    rw [State.foldl_overrun_eq, State.foldl_report_mgmt_congr (s := s.reach t.at_) (u := s) rfl]
    refine congrArg (fun u : State => Host.Outcome.next u.settle) ?_
    dsimp only [State.startTick, State.timing]
    rw [State.foldl_report_active]
    rfl

end Sys2Proof.Machine
end

section
/-! PROOFS. The transmit arbiter (R148): control frames and resends (O25), new frames by rank (O26), and the final responses
with what they release (O27). -/

namespace Sys2Proof.Machine

section
variable {s : State}

/-! ### ranks 1 and 2 -/

theorem State.Transmits.exec_some {t : State} (h : s.Transmits) (sent : s.select = some t)
    (kept : t.mgmt.resetTaken = s.mgmt.resetTaken) : exec .transmitSelect s = .next t := by
  rw [exec_transmitSelect h.running, sent]
  exact congrArg _ (State.resetIfTaken_none (kept.trans h.noReset))

theorem State.Transmits.exec_none (h : s.Transmits) (none : s.select = none) : exec .transmitSelect s = .next s := by
  rw [exec_transmitSelect h.running, none]

theorem State.select_none (control : s.sendControl = none) (resend : s.sendResend = none) (new : s.sendNew = none) :
    s.select = none := by
  rw [State.select, control, resend, new]
  rfl

theorem State.sendNew_none (full : s.link.allowsNew = false) : s.sendNew = none := by
  rw [State.sendNew, full]
  rfl

/-- R144: out of UP nothing new is sent. -/
theorem Link.allowsNew_notUp {l : Link} (notUp : l.state ≠ .up) : l.allowsNew = false := by
  simp [Link.allowsNew, notUp]

theorem State.sendResend_notUp (notUp : s.link.state ≠ .up) : s.sendResend = none := by
  unfold State.sendResend
  dsimp only
  split
  · split
    · exact if_neg notUp
    · rfl
  · rfl

theorem State.sendResend_none (none : s.link.resend = none) : s.sendResend = .none := by
  unfold State.sendResend
  dsimp only
  rw [none]

/-- Out of UP, with no TRAIN waiting, nothing is sent (R148). -/
theorem State.select_notUp (notUp : s.link.state ≠ .up) (answers : s.link.answers = []) (offers : s.link.offers = 0) :
    s.select = none :=
  State.select_none (State.sendControl_none answers offers notUp) (State.sendResend_notUp notUp)
    (State.sendNew_none (Link.allowsNew_notUp notUp))

theorem State.select_down (down : s.link.state = .down) : s.select = none := by
  have notUp : s.link.state ≠ .up := by rw [down]; decide
  refine State.select_none ?_ (State.sendResend_notUp notUp) (State.sendNew_none (Link.allowsNew_notUp notUp))
  unfold State.sendControl
  exact if_pos down

/-- R148, rank 2: the frame at the resend point is sent again. -/
theorem State.sendResend_some {n : Byte} {f : OutFrame} (up : s.link.state = .up) (resend : s.link.resend = some n)
    (held : s.link.ring[(n - s.link.oldest).toNat]? = some f) :
    s.sendResend = some { s with
      txLane := s.laneFrame f.kind n f.body
      link :=
        { s.link with
          updateOwed := false
          resend := if (n - s.link.oldest).toNat + 1 < s.link.ring.length then some (n + 1) else none } } := by
  unfold State.sendResend
  dsimp only
  rw [resend]
  dsimp only
  rw [held]
  exact if_pos up

end

/-- Settles O25: the control frames in order, then the resend point's frame. -/
theorem controlFramesAndResends : Obligations.ControlFramesAndResends := by
  unfold Obligations.ControlFramesAndResends
  intro s h l
  have notDown (up : s.link.state = .up) : s.link.state ≠ .down := by rw [up]; decide
  refine ⟨fun down => h.exec_none (State.select_down down), fun notUp answers offers =>
    h.exec_none (State.select_notUp notUp answers offers), fun a rest notDown answers => ?_,
    fun notDown answers offers => ?_, fun up answers offers => ⟨fun n rest replays => ?_, fun replays owed => ?_,
    fun n f replays owed resend held => ?_⟩⟩
  · have mode : a.mode.code = if a.mode = .resume then 1 else 0 := by cases a.mode <;> rfl
    rw [← mode]
    exact h.exec_some (State.select_of_control (State.sendControl_answer notDown answers)) rfl
  · have body : s.link.offerBody = if s.link.live then [0, s.link.session, 1, s.link.expect] else [0, 0, 0, 0] := rfl
    rw [← body]
    exact h.exec_some (State.select_of_control (State.sendControl_offer notDown answers offers)) rfl
  · exact h.exec_some (State.select_of_control (State.sendControl_replay answers offers up replays)) rfl
  · exact h.exec_some
      (State.select_of_control ((State.sendControl_ack answers offers up replays).trans (if_pos owed))) rfl
  · have control : s.sendControl = none := (State.sendControl_ack answers offers up replays).trans (if_neg (by simpa using owed))
    refine h.exec_some ?_ rfl
    rw [State.select, control, State.sendResend_some up resend held]
    rfl

/-! ### rank 3 (R155, R189) -/

section
variable {s : State}

/-- A new frame is sent with the state that its source leaves. -/
theorem State.SendsNew.exec_new {u : State} {f : OutFrame} (h : s.SendsNew)
    (taken : s.takeManageReply.or (s.takeNotice.or (s.takeHold.or s.takeFinal)) = some (u.takeNew f))
    (kept : u.mgmt.resetTaken = s.mgmt.resetTaken) : Machine.exec .transmitSelect s = .next (u.sentNew f) := by
  rw [← State.takeNew_eq]
  exact h.exec (kept.trans h.noReset) taken

theorem State.or_of_some {t : State} {x y : Option State} (h : x = some t) : x.or y = some t := by
  rw [h]
  rfl

theorem State.takeManageReply_busy {b : BusyReply} (busy : s.mgmt.busyHold = some b) (first : b.ahead = 0) :
    s.takeManageReply = some (({ s with mgmt := { s.mgmt with busyHold := none } } : State).takeNew b.frame) := by
  have frame : s.mgmt.busyFirst = some b.frame := by
    unfold Mgmt.busyFirst
    rw [busy]
    exact if_pos first
  unfold State.takeManageReply
  rw [frame]

theorem State.takeManageReply_reply {f : OutFrame} {fs : List OutFrame} (later : s.mgmt.busyFirst = none)
    (replies : s.mgmt.replies = f :: fs) :
    s.takeManageReply = some (({ s with mgmt :=
      { s.mgmt with
        replies := fs
        busyHold := s.mgmt.busyHold.map fun b => { b with ahead := b.ahead - 1 } } } : State).takeNew f) := by
  unfold State.takeManageReply
  rw [later, replies]

theorem State.takeManageReply_none (busy : s.mgmt.busyHold = none) (replies : s.mgmt.replies = []) :
    s.takeManageReply = none := by
  unfold State.takeManageReply Mgmt.busyFirst
  rw [busy, replies]

theorem State.takeNotice_some {n : Notice} {ns : List Notice} (notices : s.mgmt.notices = n :: ns)
    (live : s.link.live = true) :
    s.takeNotice = some (({ s with mgmt := { s.mgmt with notices := ns } } : State).takeNew
      (.notice s.mgmt.notice.destination n)) := by
  unfold State.takeNotice
  rw [notices]
  exact if_pos live

/-! ### rank 4 (R62, R90) -/

theorem State.takeHold_reply {f : OutFrame} (hold : s.adm.replyHold = some f)
    (turn : s.link.replyTurn = .refuse ∨ s.sched.cancelHold = none) :
    s.takeHold = some (({ s with
      adm := { s.adm with replyHold := none }, link := { s.link with replyTurn := .cancelReply } } : State).takeNew f) := by
  have first : s.takeReplyHold = some (({ s with
      adm := { s.adm with replyHold := none }, link := { s.link with replyTurn := .cancelReply } } : State).takeNew f) := by
    unfold State.takeReplyHold
    rw [hold]
    rfl
  unfold State.takeHold
  cases named : s.link.replyTurn with
  | refuse => exact State.or_of_some first
  | cancelReply =>
    have other : s.takeCancelHold = none := by
      unfold State.takeCancelHold
      rw [turn.resolve_left (by rw [named]; decide)]
      rfl
    dsimp only
    rw [other]
    exact first

theorem State.takeHold_cancelReply {f : OutFrame} (hold : s.sched.cancelHold = some f)
    (turn : s.link.replyTurn = .cancelReply ∨ s.adm.replyHold = none) :
    s.takeHold = some (({ s with
      sched := { s.sched with cancelHold := none }, link := { s.link with replyTurn := .refuse } } : State).takeNew f) := by
  have first : s.takeCancelHold = some (({ s with
      sched := { s.sched with cancelHold := none }, link := { s.link with replyTurn := .refuse } } : State).takeNew f) := by
    unfold State.takeCancelHold
    rw [hold]
    rfl
  unfold State.takeHold
  cases named : s.link.replyTurn with
  | cancelReply => exact State.or_of_some first
  | refuse =>
    have other : s.takeReplyHold = none := by
      unfold State.takeReplyHold
      rw [turn.resolve_left (by rw [named]; decide)]
      rfl
    dsimp only
    rw [other]
    exact first

theorem State.takeHold_none (reply : s.adm.replyHold = none) (cancel : s.sched.cancelHold = none) : s.takeHold = none := by
  have replies : s.takeReplyHold = none := by rw [State.takeReplyHold, reply]; rfl
  have cancels : s.takeCancelHold = none := by rw [State.takeCancelHold, cancel]; rfl
  unfold State.takeHold
  rw [replies, cancels]
  cases s.link.replyTurn <;> rfl

/-! ### rank 5 (R121, R122) -/

theorem State.presents_none {r : ReqNo} (none : s.candidate r = none) : s.presents r = .none := by
  unfold State.presents
  rw [none]

theorem State.takeFinal_none (none : ∀ r, s.candidate r = none) : s.takeFinal = .none := by
  have choice : s.finalChoice = .none := by
    unfold State.finalChoice
    rw [List.findSome?_eq_none_iff]
    intro r _
    rw [State.presents_none (none r)]
    rfl
  rw [State.takeFinal, choice]
  rfl

/-- R122: the first requester from the pointer upward that has a candidate is served. -/
theorem State.takeFinal_some {n : Fin 16} {p : Place} {f : OutFrame}
    (none : ∀ m < n, s.candidate (s.link.rr + m) = none) (candidate : s.candidate (s.link.rr + n) = some p)
    (frame : s.finalFrame (s.link.rr + n) p = some f) :
    s.takeFinal =
      some (((s.releasePlace (s.link.rr + n) p).setLink { s.link with rr := s.link.rr + n + 1 }).takeNew f).settle := by
  have choice : s.finalChoice = some (s.link.rr + n, p, f) := by
    refine searchOrder_findSome (n := n) (fun r => (s.presents r).map fun pf => (r, pf.1, pf.2)) (fun m hm => ?_) ?_
    · rw [State.presents_none (none m hm)]
      rfl
    · unfold State.presents
      rw [candidate]
      dsimp only
      rw [frame]
      rfl
  rw [State.takeFinal, choice]
  refine congrArg (fun u : State => some ((u.takeNew f).settle)) ?_
  rw [State.releasePlace_frame]

end

/-- Settles O26: nothing beyond the send limit, then one source of a new frame after the other. -/
theorem newFramesByRank : Obligations.NewFramesByRank := by
  unfold Obligations.NewFramesByRank
  constructor
  · intro s h up answers offers replays owed resend limit
    have full : s.link.allowsNew = false := by simp only [Link.allowsNew, up]; simp; omega
    have control : s.sendControl = none :=
      (State.sendControl_ack answers offers up replays).trans (if_neg (by simpa using owed))
    exact h.exec_none (State.select_none control (State.sendResend_none resend) (State.sendNew_none full))
  · intro s h
    refine ⟨fun b busy first => ?_, fun b f rest busy later replies => ?_, fun f rest busy replies => ?_,
      fun n rest busy replies notices live => ?_, fun f none hold turn => ?_, fun f none hold turn => ?_,
      fun none reply cancel candidates => ?_⟩
    · exact h.exec_new (State.or_of_some (State.takeManageReply_busy busy first)) rfl
    · have waits : s.mgmt.busyFirst = none := by
        unfold Mgmt.busyFirst
        rw [busy]
        exact if_neg (by omega)
      have taken := State.takeManageReply_reply waits replies
      rw [busy] at taken
      exact h.exec_new (State.or_of_some taken) rfl
    · have waits : s.mgmt.busyFirst = none := by
        unfold Mgmt.busyFirst
        rw [busy]
      have kept : (s.mgmt.busyHold.map fun b => { b with ahead := b.ahead - 1 }) = s.mgmt.busyHold := by
        rw [busy]
        rfl
      have taken := State.takeManageReply_reply waits replies
      rw [kept] at taken
      exact h.exec_new (State.or_of_some taken) rfl
    · refine h.exec_new ?_ rfl
      rw [State.takeManageReply_none busy replies, Option.none_or]
      exact State.or_of_some (State.takeNotice_some notices live)
    · refine h.exec_new ?_ rfl
      rw [none.takes.1, none.takes.2, Option.none_or, Option.none_or]
      exact State.or_of_some (State.takeHold_reply hold turn)
    · refine h.exec_new ?_ rfl
      rw [none.takes.1, none.takes.2, Option.none_or, Option.none_or]
      exact State.or_of_some (State.takeHold_cancelReply hold turn)
    · refine h.exec_none ?_
      rw [h.select, none.takes.1, none.takes.2, State.takeHold_none reply cancel, State.takeFinal_none candidates]
      rfl

/-- Settles O27: the place's frame by its state, and what its release changes. -/
theorem finalResponseReleased : Obligations.FinalResponseReleased := by
  unfold Obligations.FinalResponseReleased
  intro s n p h rank3 reply cancel r none candidate released
  have sent {f : OutFrame} {slots : Table 32 RespSlot} (frame : s.finalFrame r p = some f)
      (release : s.releasePlace r p = { s with
        adm := { s.adm with tags := s.adm.tags.set r ((s.adm.tags.get r).erase p.tag) }
        resp :=
          { slots := slots
            orders := s.resp.orders.set r ((s.resp.orders.get r).eraseP fun x => x.tag = p.tag) } }) :
      exec .transmitSelect s = .next (released slots f) := by
    have taken := State.takeFinal_some none candidate frame
    rw [release, State.takeNew_eq] at taken
    refine h.exec ?_ ?_
    · rw [State.settle_mgmt_resetTaken]
      exact h.noReset
    · rw [rank3.takes.1, rank3.takes.2, State.takeHold_none reply cancel, Option.none_or, Option.none_or, Option.none_or]
      exact taken
  refine ⟨fun st state => sent ?_ ?_, fun state => sent ?_ ?_, fun st i bad o data results lapse state slot => sent ?_ ?_⟩
  · rw [State.finalFrame, state]
  · simp only [State.releasePlace, state]
    rfl
  · rw [State.finalFrame, state]
  · simp only [State.releasePlace, state]
    rfl
  · rw [State.finalFrame, state]
    dsimp only
    rw [slot]
    rfl
  · simp only [State.releasePlace, state]
    rfl

end Sys2Proof.Machine
end

section
/-! PROOFS. The host link: inbound frames (O28), acks (O29), REPLAYs (O30), the ack timer (O31), RECOVERY (O32), TRAINs (O33),
session loss (O34), the lane signal and the link timers (O35). -/

namespace Sys2Proof.Machine

/-! ### inbound frames (R138 to R140) -/

section
variable {s : State} {bytes : List Byte} {f : Frame}

theorem State.askReplay_eq (s : State) :
    s.askReplay =
      if s.link.replayMark = none then
        { s with link :=
          { s.link with
            replayMark := some s.link.expect
            replays := s.link.replays ++ [s.link.expect]
            markTimer := some (s.now + s.mgmt.active.link.ackTimeout * 1000) } }
      else s := by
  unfold State.askReplay
  cases mark : s.link.replayMark <;> rfl

theorem State.takeUpFrame_inWindow (window : s.link.inWindow f.ack = true) (k : State → State) :
    s.takeUpFrame f k = k (s.takeAckCredit f) :=
  if_pos window

theorem State.takeUpFrame_outside (outside : s.link.inWindow f.ack = false) (k : State → State) :
    s.takeUpFrame f k = s.enterRecovery .ackRange := by
  unfold State.takeUpFrame
  rw [outside]
  rfl

theorem exec_inbound (running : s.rst = none) (parsed : parseFrame bytes = some f) (sequenced : isControl f.kind = false) :
    exec (.inboundSequencedFrame bytes) s =
      .next (if s.link.state = .up then s.takeUpFrame f fun u => u.takeSequenced f else s) := by
  show execInboundSequencedFrame bytes s = _
  rw [execInboundSequencedFrame, State.event_running running]
  rw [parsed]
  simp only [sequenced, true_and]

theorem exec_hostAck (running : s.rst = none) (parsed : parseFrame bytes = some f) (kind : f.kind = kindAck) :
    exec (.hostAck bytes) s = .next (if s.link.state = .up then s.takeUpFrame f id else s) := by
  show execHostAck bytes s = _
  rw [execHostAck, State.event_running running]
  rw [parsed]
  simp only [kind, true_and]

/-- R146, R193: a REPLAY's body, after the frame's ack and credit. -/
def State.replayBody (s : State) (body : List Byte) : State :=
  match body with
  | [n] => s.hostReplay n
  | _ => s

theorem exec_hostReplay (running : s.rst = none) (parsed : parseFrame bytes = some f) (kind : f.kind = kindReplay) :
    exec (.hostReplay bytes) s =
      .next (if s.link.state = .up then s.takeUpFrame f fun u => u.replayBody f.body else s) := by
  show execHostReplay bytes s = _
  rw [execHostReplay, State.event_running running]
  rw [parsed]
  refine congrArg Host.Outcome.next ?_
  exact if_congr (and_iff_right kind) rfl rfl

theorem exec_hostTrain (running : s.rst = none) (parsed : parseFrame bytes = some f) (kind : f.kind = kindTrain) :
    exec (.hostTrain bytes) s = .next (s.hostTrain f) := by
  show execHostTrain bytes s = _
  rw [execHostTrain, State.event_running running]
  rw [parsed]
  exact congrArg _ (if_pos kind)

end

theorem dataKind_iff (k : Byte) (x : ReqKind) : dataKind k = some x ↔ k = x.code := by
  unfold dataKind
  by_cases read : k = kindRead
  · subst read
    cases x <;> decide
  · by_cases write : k = kindWrite
    · subst write
      cases x <;> decide
    · by_cases masked : k = kindMaskedWrite
      · subst masked
        cases x <;> decide
      · rw [if_neg read, if_neg write, if_neg masked]
        cases x <;> simp [ReqKind.code, read, write, masked]

theorem dataKind_isSome (k : Byte) : (dataKind k).isSome = true ↔ k = 0x10 ∨ k = 0x11 ∨ k = 0x12 := by
  rw [Option.isSome_iff_exists]
  constructor
  · rintro ⟨x, h⟩
    rw [dataKind_iff] at h
    subst h
    cases x <;> decide
  · rintro (rfl | rfl | rfl)
    · exact ⟨.read, by decide⟩
    · exact ⟨.write, by decide⟩
    · exact ⟨.masked, by decide⟩

/-- R139: a frame of number E that is accepted, and bound where its kind has a destination. -/
theorem State.takeSequenced_expected {u : State} {f : Frame} (expected : (f.seq - u.link.expect).toNat = 0) :
    u.takeSequenced f =
      if u.link.rx.length < 8 then u.acceptFrame f else (u.report (.linkProtocol .noSlot)).askReplay := by
  unfold State.takeSequenced
  exact if_pos expected

theorem State.takeSequenced_ahead {u : State} {f : Frame} (one : 1 ≤ (f.seq - u.link.expect).toNat)
    (near : (f.seq - u.link.expect).toNat ≤ 127) : u.takeSequenced f = u.askReplay := by
  unfold State.takeSequenced
  dsimp only
  rw [if_neg (by omega), if_pos (by omega)]

theorem State.takeSequenced_behind {u : State} {f : Frame} (far : 128 ≤ (f.seq - u.link.expect).toNat) :
    u.takeSequenced f = { u with link := { u.link with updateOwed := true } } := by
  unfold State.takeSequenced
  dsimp only
  rw [if_neg (by omega), if_neg (by omega)]
  rfl

/-- Settles O28: the codes, then the rows of R139 after the frame's ack and credit, then a bad check. -/
theorem inboundFrameRows : Obligations.InboundFrameRows := by
  unfold Obligations.InboundFrameRows
  refine ⟨⟨rfl, rfl, rfl, fun k => ?_, fun k => ?_, fun x => ?_, dataKind_iff, fun f => ⟨dataKind_isSome f.kind, ?_, ?_⟩,
    fun l a => decide_eq_true_iff⟩, fun s bytes f running parsed sequenced => ?_, fun s bytes running bad => ?_⟩
  · simp only [isControl, Bool.or_eq_true, decide_eq_true_eq, or_assoc]
    exact Iff.rfl
  · unfold hasDestination
    simp only [Bool.or_eq_true, decide_eq_true_eq, dataKind_isSome, or_assoc]
    exact Iff.rfl
  · cases x <;> rfl
  · exact decide_eq_true_iff
  · exact decide_eq_true_iff
  · rw [exec_inbound running parsed sequenced]
    refine ⟨fun notUp => by rw [if_neg notUp], fun up outside => ?_, fun up window => ?_⟩
    · rw [if_pos up, State.takeUpFrame_outside outside]
    · rw [if_pos up, State.takeUpFrame_inWindow window]
      obtain ⟨expect, rx, -⟩ := s.takeAckCredit_keeps f
      intro u ask accepted d
      have ask_eq (v : State) : ask v = v.askReplay := (State.askReplay_eq v).symm
      refine ⟨fun zero room bound => ?_, fun zero room unbound => ?_, fun zero full => ?_, fun one near => ?_, fun far => ?_⟩
      · rw [State.takeSequenced_expected (expect ▸ zero), if_pos (rx ▸ room), State.acceptFrame]
        simp only [bound, if_true]
        rfl
      · rw [State.takeSequenced_expected (expect ▸ zero), if_pos (rx ▸ room), State.acceptFrame]
        have same : accepted [] = { u with link := { u.link with
            expect := u.link.expect + 1, replayMark := none, markTimer := none, updateOwed := true } } := by
          dsimp only [accepted]
          rw [List.append_nil]
        rw [same]
        simp only [unbound]
        rfl
      · rw [State.takeSequenced_expected (expect ▸ zero), if_neg (rx ▸ full.not_gt), ask_eq]
      · rw [State.takeSequenced_ahead (expect ▸ one) (expect ▸ near), ask_eq]
      · rw [State.takeSequenced_behind (expect ▸ far)]
  · intro counted
    have run : exec (.badCheckFrame bytes) s = .next (if s.link.state = .up then counted.askReplay else counted) := by
      show execBadCheckFrame bytes s = _
      rw [execBadCheckFrame, State.event_running running]
      dsimp only
      rw [bad]
      rfl
    have ask := State.askReplay_eq counted
    rw [run]
    refine ⟨fun quiet => ?_, fun up unmarked => ?_⟩
    · rcases quiet with notUp | marked
      · rw [if_neg notUp]
      · rw [ask, if_neg (c := counted.link.replayMark = none) marked, ite_self]
    · rw [if_pos up, ask, if_pos (by exact unmarked)]

/-! ### acks (R142) -/

/-- Settles O29: where the ack lies, then what an ack in the window does to the ring. -/
theorem ackTrimsRing : Obligations.AckTrimsRing := by
  unfold Obligations.AckTrimsRing
  intro s bytes f running parsed kind l oldest k left
  have acked : s.link.acked f.ack = k := rfl
  rw [exec_hostAck running parsed kind]
  refine ⟨fun notUp => by rw [if_neg notUp], fun up inside => ?_, fun up outside => ?_, fun zero => ?_, fun some inside => ?_⟩
  · rw [if_pos up, State.takeUpFrame_inWindow (Link.inWindow_iff.2 inside)]
    rfl
  · rw [if_pos up, State.takeUpFrame_outside]
    exact Bool.eq_false_iff.2 fun window => absurd (Link.inWindow_iff.1 window) outside.not_ge
  · unfold State.takeAckCredit State.takeAck
    dsimp only
    rw [acked, if_pos zero]
    rfl
  · unfold State.takeAckCredit State.takeAck
    dsimp only
    rw [acked, if_neg (by omega)]
    have room : k < s.link.ring.length ↔ 0 < left := Nat.sub_pos_iff_lt.symm
    have resend : s.link.resendAfter k = l.resend.bind fun n =>
        if k ≤ (n - oldest).toNat then Option.some n else if 0 < left then Option.some (oldest + byteOf k) else none := by
      unfold Link.resendAfter
      cases point : s.link.resend with
      | none => rfl
      | some n =>
        by_cases before : (n - s.link.oldest).toNat < k
        · exact (if_pos before).trans (.symm ((if_neg before.not_ge).trans (if_congr room.symm rfl rfl)))
        · exact (if_neg before).trans (if_pos (not_lt.1 before)).symm
    rw [resend]
    simp only [room]
    rfl

/-! ### REPLAYs and the ack timer (R145, R146) -/

/-- Settles O30: the frame's ack and credit, then the resend point. -/
theorem hostReplayMovesResendPoint : Obligations.HostReplayMovesResendPoint := by
  unfold Obligations.HostReplayMovesResendPoint
  intro s bytes f running parsed kind
  rw [exec_hostReplay running parsed kind]
  refine ⟨fun notUp => by rw [if_neg notUp], fun up outside => ?_, fun up window => ?_⟩
  · rw [if_pos up, State.takeUpFrame_outside outside]
  · rw [if_pos up, State.takeUpFrame_inWindow window]
    refine ⟨fun n body => ⟨fun inRing => ?_, fun outside => ?_⟩, fun length => ?_⟩
    · rw [body]
      exact congrArg _ (if_pos inRing)
    · rw [body]
      exact congrArg _ (if_neg outside)
    · unfold State.replayBody
      split
      next n body => simp [body] at length
      next => rfl

/-- Settles O31: the fourth expiry without progress is the one that takes the link to RECOVERY. -/
theorem ackTimerExpires : Obligations.AckTimerExpires := by
  unfold Obligations.AckTimerExpires
  intro s d running up timer now
  have run : exec .ackTimerExpiry s = .next (s.reach d).ackExpires := by
    show execAckTimerExpiry s = _
    rw [execAckTimerExpiry, State.event_running running]
    rw [timer]
    exact congrArg _ (if_pos up)
  rw [run]
  exact ⟨fun early => congrArg _ (if_pos (Nat.succ_lt_succ early)),
    fun fourth => congrArg _ (if_neg fun early => absurd (Nat.lt_of_succ_lt_succ early) fourth.not_gt)⟩

/-! ### RECOVERY (R133) -/

/-- R133: what stands in RECOVERY before a hold time of 0 ends and before a waiting reset is taken. -/
def State.recovered (s : State) (cause : RecoveryCause) : State :=
  { s.report (.linkRecovery cause) with
    link :=
      { s.link with
        state := .recovery
        ackTimer := none
        markTimer := none
        resend := none
        replayMark := none
        replays := []
        updateOwed := false
        holdTimer := some (s.now + s.mgmt.active.link.holdTime * 1000)
        offers := s.link.offers + 1
        offerTimer := some (s.now + 100000)
        stateTimer := some (s.now + 2000000) } }

section
variable {s : State} {cause : RecoveryCause}

theorem State.enterRecovery_eq (s : State) (cause : RecoveryCause) :
    s.enterRecovery cause =
      (if s.mgmt.active.link.holdTime * 1000 = 0 then (s.recovered cause).holdExpires
        else s.recovered cause).resetIfTaken := by
  unfold State.enterRecovery State.recovered
  simp only [State.setLink, State.holdTime, State.report_mgmt_active, State.report_link, State.report_now, offerTime,
    recoveryTime]

theorem State.recovered_startKind (s : State) (cause : RecoveryCause) : (s.recovered cause).startKind = s.startKind := by
  have part : (s.recovered cause).mgmt.part = s.mgmt.part := State.report_mgmt_part s _
  have port : (s.recovered cause).port = s.port := State.report_port s _
  unfold State.startKind
  rw [part, port]

theorem State.recovered_resetTaken (s : State) (cause : RecoveryCause) :
    (s.recovered cause).mgmt.resetTaken = s.mgmt.resetTaken :=
  State.report_mgmt_resetTaken s _

theorem State.startKind_warm (s : State) : s.startKind = .warm ↔ s.mgmt.part.state = .retained ∧ s.port.mode = .held := by
  unfold State.startKind
  split <;> simp [*]

theorem State.resetIfTaken_some (taken : s.mgmt.resetTaken = true) : s.resetIfTaken = s.resetPart := if_pos taken

/-- R149: the session is live, and the hold timer ends. -/
theorem State.holdExpires_live (live : s.link.live = true) :
    s.holdExpires = (({ s with link := { s.link with holdTimer := none } } : State).loseSession).settle :=
  if_pos live

theorem State.loseSession_resetTaken (s : State) : s.loseSession.mgmt.resetTaken = s.mgmt.resetTaken :=
  State.report_mgmt_resetTaken _ _

end

/-- Settles O32: what stands in RECOVERY, then the hold time of 0, then the waiting reset. -/
theorem recoveryEntry : Obligations.RecoveryEntry := by
  unfold Obligations.RecoveryEntry
  intro s cause hold u
  have recovered : s.recovered cause = u := rfl
  rw [State.enterRecovery_eq, recovered]
  have waits : u.mgmt.resetTaken = s.mgmt.resetTaken := s.recovered_resetTaken cause
  refine ⟨fun none long => ?_, fun none zero live => ?_, fun taken long => ?_, fun taken zero live => ?_⟩
  · rw [if_neg long, State.resetIfTaken_none (waits.trans none)]
  · rw [if_pos zero, State.holdExpires_live (s := u) live, State.resetIfTaken_none]
    rw [State.settle_mgmt_resetTaken, State.loseSession_resetTaken]
    exact waits.trans none
  · rw [if_neg long, State.resetIfTaken_some (waits.trans taken)]
    obtain ⟨ends, started⟩ := u.resetPart_started
    have kind : u.startKind = s.startKind := s.recovered_startKind cause
    have array : u.array = s.array := State.report_array s _
    have now : u.now = s.now := State.report_now s _
    rw [kind, array, now] at started
    exact ⟨_, _, rfl, ends, started, s.startKind_warm⟩
  · rw [if_pos zero, State.holdExpires_live (s := u) live]
    intro v
    have taken : v.mgmt.resetTaken = true := by
      rw [State.settle_mgmt_resetTaken, State.loseSession_resetTaken]
      exact waits.trans taken
    rw [State.resetIfTaken_some taken]
    obtain ⟨ends, started⟩ := v.resetPart_started
    have now : v.now = s.now := by
      rw [State.settle_now, State.loseSession_now]
      exact State.report_now s _
    rw [now] at started
    exact ⟨_, _, rfl, ends, started, v.startKind_warm⟩

/-! ### TRAINs (R135 to R137) -/

section
variable {s : State} {f : Frame}

theorem trainModeOf_iff (mode : Byte) : trainModeOf mode = .resume ↔ mode = 1 := by
  unfold trainModeOf
  split
  next one => exact ⟨fun _ => one, fun _ => rfl⟩
  next other => exact ⟨fun no => (by cases no), fun one => absurd one other⟩

theorem Link.resumes_iff {l : Link} {mode : TrainMode} {session ack : Byte} : l.resumes mode session ack = true ↔
    (mode = .resume ∧ l.live = true ∧ session = l.session) ∧ l.inWindow ack = true := by
  simp [Link.resumes, and_assoc]

/-- R136: the link with the next session open. -/
def Link.opened (l : Link) (credit : Byte) : Link :=
  { l with
    state := .up, session := nextSession l.session, live := true, expect := 0, nextSeq := 0, rx := [], ring := []
    resend := none, sendLimit := credit, expiries := 0, replayMark := none, ackTimer := none, markTimer := none
    holdTimer := none, offerTimer := none, stateTimer := none, offers := 0
    answers := l.answers ++ [{ mode := .new, session := nextSession l.session, expect := 0 }] }

theorem State.openSession_eq (s : State) (credit : Byte) :
    s.openSession credit = { s with link := s.link.opened credit } := rfl

theorem State.newSession_dead (dead : s.link.live = false) (credit : Byte) :
    s.newSession credit = { s with link := s.link.opened credit } := by
  rw [State.newSession, dead]
  rfl

theorem State.newSession_live (live : s.link.live = true) (credit : Byte) :
    s.newSession credit = { s.loseSession.settle with link := s.loseSession.link.opened credit } := by
  rw [State.newSession, if_pos live, State.openSession_eq, State.settle_link]

/-- R131: the link on which a TRAIN is taken. -/
def State.trained (s : State) : State := if s.link.state = .down then s.enterTraining else s

theorem State.hostTrain_body {a session mode next : Byte} (body : f.body = [a, session, mode, next]) :
    s.hostTrain f =
      if s.trained.link.state = .up then s.trained.takeTrainUp (trainModeOf mode) session f.credit
      else s.trained.takeTrain (trainModeOf mode) session f.ack f.credit := by
  unfold State.hostTrain
  rw [body]
  rfl

theorem State.trained_up (up : s.link.state = .up) : s.trained = s := if_neg (by rw [up]; decide)

theorem State.trained_live (s : State) : s.trained.link.live = s.link.live := by
  unfold State.trained
  split <;> rfl

/-- R136: what is opened does not depend on where the link stood. -/
theorem State.trained_opened (s : State) (credit : Byte) :
    ({ s.trained with link := s.trained.link.opened credit } : State) = { s with link := s.link.opened credit } := by
  unfold State.trained
  split <;> rfl

/-- R135: what resumes the session is read from, and written to, the link as it was before TRAINING. -/
theorem State.takeTrain_trained (mode : TrainMode) (session ack credit : Byte) :
    s.trained.takeTrain mode session ack credit =
      if s.link.resumes mode session ack then s.resumeSession ack credit else s.trained.newSession credit := by
  unfold State.trained
  split <;> rfl

theorem State.trained_notUp (notUp : s.link.state ≠ .up) : s.trained.link.state ≠ .up := by
  unfold State.trained
  split
  · exact (by decide : LinkState.training ≠ .up)
  · exact notUp

end

/-- Settles O33: the TRAIN resumes, is answered again, or opens the next session; then the wrong body length. -/
theorem trainResumesOrOpens : Obligations.TrainResumesOrOpens := by
  unfold Obligations.TrainResumesOrOpens
  refine ⟨fun s bytes f a session mode next running parsed kind body => ?_, fun s bytes f running parsed kind length => ?_⟩
  · rw [exec_hostTrain running parsed kind, State.hostTrain_body body]
    intro l oldest k left names number opened
    have named : trainModeOf mode = .resume ∧ s.link.live = true ∧ session = s.link.session ↔ names :=
      and_congr_left' (trainModeOf_iff mode)
    have resumes : s.link.resumes (trainModeOf mode) session f.ack = true ↔ names ∧ k ≤ l.ring.length :=
      Link.resumes_iff.trans (and_congr named Link.inWindow_iff)
    have opens (other : ¬names ∨ l.state ≠ .up ∧ l.ring.length < k) :
        (if s.trained.link.state = .up then s.trained.takeTrainUp (trainModeOf mode) session f.credit
          else s.trained.takeTrain (trainModeOf mode) session f.ack f.credit) = s.trained.newSession f.credit := by
      by_cases up : s.link.state = .up
      · have unnamed := other.resolve_right fun away => away.1 up
        rw [State.trained_up up, if_pos up]
        exact if_neg fun all => unnamed (named.1 all)
      · rw [if_neg (State.trained_notUp up), State.takeTrain_trained]
        refine if_neg fun all => ?_
        obtain ⟨all, inside⟩ := resumes.1 all
        exact other.elim (fun unnamed => unnamed all) fun away => absurd inside away.2.not_ge
    refine ⟨fun notUp all inside => ?_, fun up all => ?_, fun other dead => ?_, fun other live => ?_⟩
    · rw [if_neg (State.trained_notUp notUp), State.takeTrain_trained, if_pos (resumes.2 ⟨all, inside⟩)]
      rfl
    · rw [State.trained_up up, if_pos up]
      exact congrArg _ (if_pos (named.2 all))
    · rw [opens other, State.newSession_dead ((State.trained_live s).trans dead), State.trained_opened]
      rfl
    · intro v
      have trained : s.trained = v := rfl
      rw [opens other, State.newSession_live ((State.trained_live s).trans live), trained]
      have session : v.loseSession.link.session = l.session := by
        rw [State.loseSession_link, ← trained]
        unfold State.trained
        split <;> rfl
      have link : v.loseSession.link.opened f.credit = opened v.loseSession.link := by
        dsimp only [opened, number]
        rw [← session]
        rfl
      rw [link]
  · rw [exec_hostTrain running parsed kind]
    have discarded : s.hostTrain f = s.trained := by
      unfold State.hostTrain
      dsimp only
      split
      · rename_i body
        simp [body] at length
      · rfl
    rw [discarded]
    exact ⟨fun notDown => congrArg _ (if_neg notDown), fun down => congrArg _ (if_pos down)⟩

/-! ### the lane signal and the link timers (R131 to R133, R140) -/

/-- Settles O35: the signal by the state that it finds, then each timer. -/
theorem linkSignalAndTimers : Obligations.LinkSignalAndTimers := by
  unfold Obligations.LinkSignalAndTimers
  refine ⟨fun s running => ⟨fun absent down => ?_, fun other => ?_, fun up => ?_, fun training => ?_, fun other => ?_⟩,
    fun s d running => ⟨fun timer => ?_, fun state timer => ?_, fun state timer => ?_, fun timer => ?_⟩⟩
  · exact congrArg _ (if_pos ⟨absent, running, down⟩)
  · refine congrArg _ (if_neg fun ⟨absent, _, down⟩ => ?_)
    rcases other with present | notDown
    · rw [absent] at present
      cases present
    · exact notDown down
  · show execSignalLoss s = _
    simp [execSignalLoss, running, up]
  · show execSignalLoss s = _
    simp only [execSignalLoss, running, training]
    rfl
  · show execSignalLoss s = _
    rcases other with state | state <;> simp [execSignalLoss, running, state]
  · show execOfferTimerExpiry s = _
    rw [execOfferTimerExpiry, State.event_running running]
    rw [timer]
    rfl
  · show execTrainingTimeout s = _
    rw [execTrainingTimeout, State.event_running running]
    rw [timer]
    exact congrArg _ (if_pos state)
  · show execRecoveryTimeout s = _
    rw [execRecoveryTimeout, State.event_running running]
    rw [timer]
    exact congrArg _ (if_pos state)
  · show execReplayMarkTimerExpiry s = _
    rw [execReplayMarkTimerExpiry, State.event_running running]
    rw [timer]
    rfl

/-! ### session loss (R150, R151) -/

/-- R71: an entry that nothing blocks keeps its link, so a list of such entries stays. -/
theorem relink_of_unblocked {l : List Entry} (unblocked : ∀ e ∈ l, e.blockedBy = none) : relink l = l := by
  have keeps (ids : List Nat) (older : List Entry) : relinkFrom ids older l = l := by
    induction l generalizing older with
    | nil => rfl
    | cons e es ih =>
      rw [List.forall_mem_cons] at unblocked
      unfold relinkFrom
      rw [unblocked.1]
      exact congrArg _ (ih unblocked.2 _)
  exact keeps _ []

/-- R181: the part at a session loss. -/
theorem Part.loseSession_eq (p : Part) :
    p.loseSession =
      { p with
        state := if p.state = .retained then .retained else .draining
        stage := if p.state = .retained ∨ p.state = .draining then p.stage else some .list
        retainOwed := if p.state = .retained then p.retainOwed else none } := by
  obtain ⟨state, stage, owed, start⟩ := p
  cases state <;> rfl

/-- Settles O34: the hold timer's end, then block by block what the loss leaves. -/
theorem sessionLoss : Obligations.SessionLoss := by
  unfold Obligations.SessionLoss
  intro s
  have expires {d : Nat} (running : s.rst = none) (timer : s.link.holdTimer = some d) :
      exec .holdTimerExpiry s = .next (s.reach d).holdExpires := by
    show execHoldTimerExpiry s = _
    rw [execHoldTimerExpiry, State.event_running running]
    rw [timer]
  refine ⟨fun d running timer live => ?_, fun d running timer dead => ?_, ?_⟩
  · rw [expires running timer, State.holdExpires_live (s := s.reach d) live]
    rfl
  · rw [expires running timer]
    exact congrArg _ (if_neg (by simpa using dead))
  · refine ⟨s.loseSession_pending, s.loseSession_now, s.loseSession_rst, s.loseSession_port, s.loseSession_ren,
      s.loseSession_array, by simp [State.loseSession], by simp [State.loseSession], by simp [State.loseSession],
      s.loseSession_link, fun r => by simp [State.loseSession], by simp [State.loseSession], by simp [State.loseSession],
      fun i w slot => ?_, fun free => ?_, fun i => ?_, ?_⟩
    · have kept : s.loseSession.adm.slots.get i = slotAtLoss s.sched.list (s.adm.slots.get i) := by simp [State.loseSession]
      rw [kept, slot]
      constructor
      · rintro ⟨e, he, waits⟩
        by_contra some
        obtain ⟨x, lost⟩ := Option.ne_none_iff_exists'.1 some
        obtain ⟨same, none⟩ := slotAtLoss_eq_some.1 lost
        cases same
        exact none e he waits
      · refine fun issued => slotAtLoss_eq_some.2 ⟨rfl, fun e he waits => ?_⟩
        rw [issued e he waits.1] at waits
        cases waits.2
    · have list : sessionList s.sched.list =
          (s.sched.list.filter fun e => e.state = .issued).map fun e => { e with tagHeld := false } := by
        refine relink_of_unblocked fun x hx => ?_
        obtain ⟨y, hy, issued, rfl⟩ := mem_sessionList_base hx
        exact free y hy issued
      rw [← list]
      simp [State.loseSession]
    · have kept : s.loseSession.resp.slots.get i = (s.resp.slots.get i).atLoss := by simp [State.loseSession]
      rw [kept]
      cases s.resp.slots.get i <;> rfl
    · refine State.report_mgmt_congr ?_ _
      dsimp only [Mgmt.loseSession]
      rw [Part.loseSession_eq]

end Sys2Proof.Machine
end

section
/-! PROOFS. Layouts (R191, R192, R194): frames and object values are read back byte for byte (O36), and what a SET's value
must hold. -/

namespace Sys2Proof.Machine

/-! ### fields of more than one byte -/

section
variable {v : List Byte} {i n : Nat}

theorem natOfBytes_two (a b : Byte) : natOfBytes [a, b] = a.toNat * 256 + b.toNat := by simp [natOfBytes]

theorem natOfBytes_three (a b c : Byte) : natOfBytes [a, b, c] = a.toNat * 65536 + b.toNat * 256 + c.toNat := by
  simp [natOfBytes]
  omega

/-- The bytes of a field, in order. -/
theorem field_bytes (h : i + 1 < v.length) : (v.drop i).take 2 = [v[i], v[i + 1]] := by
  rw [List.drop_eq_getElem_cons (by omega), List.drop_eq_getElem_cons (by omega)]
  rfl

theorem u8_field (h : i + 1 ≤ v.length) : [byteOf (fieldAt v i 1)] = (v.drop i).take 1 := by
  rw [fieldAt, List.drop_eq_getElem_cons (by omega)]
  show [byteOf (natOfBytes [v[i]])] = [v[i]]
  simp [natOfBytes]

theorem u16_field (h : i + 2 ≤ v.length) : u16 (fieldAt v i 2) = (v.drop i).take 2 := by
  rw [fieldAt, field_bytes (by omega), natOfBytes_two]
  have hi : byteOf ((v[i].toNat * 256 + v[i + 1].toNat) / 256) = v[i] := by
    have := v[i + 1].isLt
    rw [show (v[i].toNat * 256 + v[i + 1].toNat) / 256 = v[i].toNat by omega, byteOf_toNat]
  have lo : byteOf (v[i].toNat * 256 + v[i + 1].toNat) = v[i + 1] := by
    have := v[i + 1].isLt
    apply BitVec.eq_of_toNat_eq
    rw [toNat_byteOf]
    omega
  rw [u16, hi, lo]

theorem u24_field (h : i + 3 ≤ v.length) : u24 (fieldAt v i 3) = (v.drop i).take 3 := by
  have bytes : (v.drop i).take 3 = [v[i], v[i + 1], v[i + 2]] := by
    rw [List.drop_eq_getElem_cons (by omega), List.drop_eq_getElem_cons (by omega), List.drop_eq_getElem_cons (by omega)]
    rfl
  rw [fieldAt, bytes, natOfBytes_three, u24]
  have h0 := v[i].isLt
  have h1 := v[i + 1].isLt
  have h2 := v[i + 2].isLt
  congr 1
  · apply BitVec.eq_of_toNat_eq
    rw [toNat_byteOf]
    omega
  · congr 1
    · apply BitVec.eq_of_toNat_eq
      rw [toNat_byteOf]
      omega
    · congr 1
      apply BitVec.eq_of_toNat_eq
      rw [toNat_byteOf]
      omega

theorem fieldAt_u8 (h : v[i]? = some (byteOf n)) (small : n < 256) : fieldAt v i 1 = n := by
  rw [fieldAt_one_of h, toNat_byteOf, Nat.mod_eq_of_lt small]

theorem fieldAt_u16 (hi : v[i]? = some (byteOf (n / 256))) (lo : v[i + 1]? = some (byteOf n)) (small : n < 65536) :
    fieldAt v i 2 = n := by
  obtain ⟨h0, e0⟩ := List.getElem?_eq_some_iff.1 hi
  obtain ⟨h1, e1⟩ := List.getElem?_eq_some_iff.1 lo
  rw [fieldAt, field_bytes h1, natOfBytes_two, e0, e1, toNat_byteOf, toNat_byteOf]
  omega

theorem fieldAt_u24 (hi : v[i]? = some (byteOf (n / 65536))) (mid : v[i + 1]? = some (byteOf (n / 256)))
    (lo : v[i + 2]? = some (byteOf n)) (small : n < 16777216) : fieldAt v i 3 = n := by
  obtain ⟨h0, e0⟩ := List.getElem?_eq_some_iff.1 hi
  obtain ⟨h1, e1⟩ := List.getElem?_eq_some_iff.1 mid
  obtain ⟨h2, e2⟩ := List.getElem?_eq_some_iff.1 lo
  have bytes : (v.drop i).take 3 = [v[i], v[i + 1], v[i + 2]] := by
    rw [List.drop_eq_getElem_cons (by omega), List.drop_eq_getElem_cons (by omega), List.drop_eq_getElem_cons (by omega)]
    rfl
  rw [fieldAt, bytes, natOfBytes_three, e0, e1, e2, toNat_byteOf, toNat_byteOf, toNat_byteOf]
  omega

theorem fieldAt_two_lt (v : List Byte) (i : Nat) : fieldAt v i 2 < 65536 := by
  rw [fieldAt]
  have two : ((v.drop i).take 2).length ≤ 2 := by simp
  match h : (v.drop i).take 2 with
  | [] => simp [natOfBytes]
  | [a] => have := a.isLt; simp [natOfBytes]; omega
  | [a, b] =>
    have := a.isLt
    have := b.isLt
    rw [natOfBytes_two]
    omega
  | a :: b :: c :: l =>
    rw [h] at two
    simp at two

/-- The bytes of a value up to a field, and those of the field. -/
theorem take_append_field {j k : Nat} (v : List Byte) (h : j + k = n) : v.take j ++ (v.drop j).take k = v.take n := by
  rw [← h, List.take_add]

theorem boolOfByte_eq_some {n : Nat} {b : Bool} : boolOfByte n = some b ↔ n = if b then 1 else 0 := by
  unfold boolOfByte
  split
  · cases b <;> simp [*]
  · split
    · cases b <;> simp [*]
    · cases b <;> simp [*]

theorem boolOfByte_isSome (n : Nat) : (boolOfByte n).isSome = true ↔ n ≤ 1 := by
  unfold boolOfByte
  split
  · simp [*]
  · split
    · simp [*]
    · simp
      omega

/-- A yes/no byte that a value carries. -/
theorem boolByte_field {b : Bool} (h : i + 1 ≤ v.length) (field : boolOfByte (fieldAt v i 1) = some b) :
    [boolByte b] = (v.drop i).take 1 := by
  rw [← u8_field h, boolOfByte_eq_some.1 field]
  cases b <;> rfl

theorem boolOfByte_boolByte {b : Bool} (h : v[i]? = some (boolByte b)) : boolOfByte (fieldAt v i 1) = some b := by
  rw [fieldAt_one_of h, boolOfByte_eq_some]
  cases b <;> rfl

end

/-! ### the timing profile (R17) -/

/-- R17 test 1: the field at a position is out of its range. -/
def Timing.Bad (t : Timing) (i : Nat) : Prop :=
  ∃ v lo hi, t.fields[i]? = some (v, lo, hi) ∧ (v < lo ∨ hi < v ∨ i = 12 ∧ v = 3)

/-- The test of a field as the model runs it. -/
def Timing.badAt (t : Timing) (i : Nat) : Bool :=
  match t.fields[i]? with
  | some (v, lo, hi) => v < lo || hi < v || (i = 12 && v = 3)
  | none => false

theorem Timing.badField_eq (t : Timing) : t.badField = (List.range 16).find? t.badAt := rfl

theorem Timing.badAt_iff {t : Timing} {i : Nat} : t.badAt i = true ↔ t.Bad i := by
  unfold Timing.Bad Timing.badAt
  cases t.fields[i]? with
  | none => simp
  | some x =>
    obtain ⟨v, lo, hi⟩ := x
    simp [or_assoc]

theorem Timing.bad_lt {t : Timing} {i : Nat} (h : t.Bad i) : i < 16 := by
  obtain ⟨v, lo, hi, field, -⟩ := h
  exact (List.getElem?_eq_some_iff.1 field).1

theorem Timing.badField_eq_none {t : Timing} : t.badField = none ↔ ∀ i, ¬t.Bad i := by
  rw [Timing.badField_eq, List.find?_eq_none]
  constructor
  · intro all i bad
    exact all i (List.mem_range.2 (Timing.bad_lt bad)) (Timing.badAt_iff.2 bad)
  · intro all i _ bad
    exact all i (Timing.badAt_iff.1 bad)

theorem Timing.badField_eq_some {t : Timing} {i : Nat} (bad : t.Bad i) (first : ∀ j < i, ¬t.Bad j) :
    t.badField = some i := by
  rw [Timing.badField_eq, List.find?_range_eq_some]
  refine ⟨Timing.badAt_iff.2 bad, List.mem_range.2 (Timing.bad_lt bad), fun j below => ?_⟩
  have good := mt Timing.badAt_iff.1 (first j below)
  simpa using good

/-- A field of the profile lies in its range. -/
theorem Timing.range_of_good {t : Timing} (good : t.badField = none) {i v lo hi : Nat}
    (field : t.fields[i]? = some (v, lo, hi)) : lo ≤ v ∧ v ≤ hi ∧ ¬(i = 12 ∧ v = 3) := by
  have kept := fun bad => Timing.badField_eq_none.1 good i ⟨v, lo, hi, field, bad⟩
  exact ⟨not_lt.1 fun low => kept (.inl low), not_lt.1 fun high => kept (.inr (.inl high)), fun rate => kept (.inr (.inr rate))⟩

theorem mapModeOf_code (m : MapMode) : mapModeOf m.code.toNat = some m := by cases m <;> rfl

theorem mapModeOf_eq_some {n : Nat} {m : MapMode} : mapModeOf n = some m ↔ n = m.code.toNat := by
  constructor
  · intro h
    unfold mapModeOf at h
    split at h
    next zero => cases h; exact zero
    next =>
      split at h
      next one => cases h; exact one
      next => cases h
  · rintro rfl
    exact mapModeOf_code m

theorem Timing.bytes_length (t : Timing) : t.bytes.length = 28 := rfl

/-! Fields of bytes that are written out, one after the other. -/

section
variable {n i l : Nat} {b : Byte} {r : List Byte}

theorem fieldAt_u16_append (small : n < 65536) : fieldAt (u16 n ++ r) 0 2 = n := fieldAt_u16 rfl rfl small

theorem fieldAt_u16_skip : fieldAt (u16 n ++ r) (i + 2) l = fieldAt r i l := rfl

theorem fieldAt_cons (small : n < 256) : fieldAt (byteOf n :: r) 0 1 = n := fieldAt_u8 rfl small

theorem fieldAt_cons_skip : fieldAt (b :: r) (i + 1) l = fieldAt r i l := rfl

end

theorem parseTiming_bytes {t : Timing} (good : t.badField = none) : parseTiming t.bytes = some t := by
  have below {v lo hi : Nat} (i : Nat) (field : t.fields[i]? = some (v, lo, hi)) (top : hi < 65536) : v < 65536 :=
    lt_of_le_of_lt (Timing.range_of_good good field).2.1 top
  have byte {v lo hi : Nat} (i : Nat) (field : t.fields[i]? = some (v, lo, hi)) (top : hi < 256) : v < 256 :=
    lt_of_le_of_lt (Timing.range_of_good good field).2.1 top
  have bytes : t.bytes = u16 t.tOa ++ (u16 t.tDwell ++ (u16 t.tClose ++ (u16 t.tWrec ++ (u16 t.tRd ++ (u16 t.tWr ++
      (u16 t.tRen ++ (u16 t.tOo ++ (u16 t.tQuad ++ (u16 t.tTurn ++ (u16 t.tExit ++ byteOf t.renewalInterval ::
      byteOf t.renewalRate :: byteOf t.urgentLevel :: (u16 t.idleClose ++ [t.mapMode.code]))))))))))) := rfl
  have tOa : fieldAt t.bytes 0 2 = t.tOa := by
    simp only [bytes, fieldAt_u16_append (below 0 rfl (by decide))]
  have tDwell : fieldAt t.bytes 2 2 = t.tDwell := by
    simp only [bytes, fieldAt_u16_skip, fieldAt_u16_append (below 1 rfl (by decide))]
  have tClose : fieldAt t.bytes 4 2 = t.tClose := by
    simp only [bytes, fieldAt_u16_skip, fieldAt_u16_append (below 2 rfl (by decide))]
  have tWrec : fieldAt t.bytes 6 2 = t.tWrec := by
    simp only [bytes, fieldAt_u16_skip, fieldAt_u16_append (below 3 rfl (by decide))]
  have tRd : fieldAt t.bytes 8 2 = t.tRd := by
    simp only [bytes, fieldAt_u16_skip, fieldAt_u16_append (below 4 rfl (by decide))]
  have tWr : fieldAt t.bytes 10 2 = t.tWr := by
    simp only [bytes, fieldAt_u16_skip, fieldAt_u16_append (below 5 rfl (by decide))]
  have tRen : fieldAt t.bytes 12 2 = t.tRen := by
    simp only [bytes, fieldAt_u16_skip, fieldAt_u16_append (below 6 rfl (by decide))]
  have tOo : fieldAt t.bytes 14 2 = t.tOo := by
    simp only [bytes, fieldAt_u16_skip, fieldAt_u16_append (below 7 rfl (by decide))]
  have tQuad : fieldAt t.bytes 16 2 = t.tQuad := by
    simp only [bytes, fieldAt_u16_skip, fieldAt_u16_append (below 8 rfl (by decide))]
  have tTurn : fieldAt t.bytes 18 2 = t.tTurn := by
    simp only [bytes, fieldAt_u16_skip, fieldAt_u16_append (below 9 rfl (by decide))]
  have tExit : fieldAt t.bytes 20 2 = t.tExit := by
    simp only [bytes, fieldAt_u16_skip, fieldAt_u16_append (below 10 rfl (by decide))]
  have renewalInterval : fieldAt t.bytes 22 1 = t.renewalInterval := by
    simp only [bytes, fieldAt_u16_skip, fieldAt_cons (byte 11 rfl (by decide))]
  have renewalRate : fieldAt t.bytes 23 1 = t.renewalRate := by
    simp only [bytes, fieldAt_u16_skip, fieldAt_cons_skip, fieldAt_cons (byte 12 rfl (by decide))]
  have urgentLevel : fieldAt t.bytes 24 1 = t.urgentLevel := by
    simp only [bytes, fieldAt_u16_skip, fieldAt_cons_skip, fieldAt_cons (byte 13 rfl (by decide))]
  have idleClose : fieldAt t.bytes 25 2 = t.idleClose := by
    simp only [bytes, fieldAt_u16_skip, fieldAt_cons_skip, fieldAt_u16_append (below 14 rfl (by decide))]
  have mode : mapModeOf (fieldAt t.bytes 27 1) = some t.mapMode := by
    simp only [bytes, fieldAt_u16_skip, fieldAt_cons_skip]
    rw [fieldAt_one_of (b := t.mapMode.code) rfl, mapModeOf_code]
  unfold parseTiming
  simp only [mode, tOa, tDwell, tClose, tWrec, tRd, tWr, tRen, tOo, tQuad, tTurn, tExit, renewalInterval, renewalRate,
    urgentLevel, idleClose]
  exact if_pos ⟨t.bytes_length, good⟩

theorem bytes_of_parseTiming {v : List Byte} {t : Timing} (h : parseTiming v = some t) :
    t.badField = none ∧ t.bytes = v := by
  unfold parseTiming at h
  split at h
  next m mode =>
    dsimp only at h
    split at h
    next good =>
      cases h
      obtain ⟨length, good⟩ := good
      refine ⟨good, ?_⟩
      have code : [m.code] = (v.drop 27).take 1 := by
        rw [← u8_field (by omega), mapModeOf_eq_some.1 mode, byteOf_toNat]
      have triple (a b c : Byte) : [a, b, c] = [a] ++ [b] ++ [c] := rfl
      simp only [Timing.bytes, triple]
      rw [code, u16_field (i := 0) (by omega), u16_field (i := 2) (by omega), u16_field (i := 4) (by omega),
        u16_field (i := 6) (by omega), u16_field (i := 8) (by omega), u16_field (i := 10) (by omega),
        u16_field (i := 12) (by omega), u16_field (i := 14) (by omega), u16_field (i := 16) (by omega),
        u16_field (i := 18) (by omega), u16_field (i := 20) (by omega), u8_field (i := 22) (by omega),
        u8_field (i := 23) (by omega), u8_field (i := 24) (by omega), u16_field (i := 25) (by omega)]
      simp only [← List.append_assoc]
      rw [List.drop_zero, take_append_field v (n := 4) rfl, take_append_field v (n := 6) rfl,
        take_append_field v (n := 8) rfl, take_append_field v (n := 10) rfl, take_append_field v (n := 12) rfl,
        take_append_field v (n := 14) rfl, take_append_field v (n := 16) rfl, take_append_field v (n := 18) rfl,
        take_append_field v (n := 20) rfl, take_append_field v (n := 22) rfl, take_append_field v (n := 23) rfl,
        take_append_field v (n := 24) rfl, take_append_field v (n := 25) rfl, take_append_field v (n := 27) rfl,
        take_append_field v (n := 28) rfl, ← length, List.take_length]
    next => cases h
  next => cases h

/-! ### windows (R33) -/

/-- R33: the fields of a window that its value spells lie in their ranges. -/
def Window.Spelled (w : Window) : Prop := w.sizeExp ≤ 10 ∧ w.logicalBase ≤ 1048575 ∧ w.physicalBase ≤ 1023

theorem PagePolicy.code_eq (p : PagePolicy) : p.code = boolByte (p = .closeAfter) := by cases p <;> rfl
theorem ContentClass.code_eq (c : ContentClass) : c.code = boolByte (c = .discardable) := by cases c <;> rfl
theorem OrderMode.code_eq (o : OrderMode) : o.code = boolByte (o = .unordered) := by cases o <;> rfl
theorem AckPoint.code_eq (a : AckPoint) : a.code = boolByte (a = .admission) := by cases a <;> rfl
theorem ReturnOrder.code_eq (o : ReturnOrder) : o.code = boolByte (o = .leadFirst) := by cases o <;> rfl
theorem MapMode.code_eq (m : MapMode) : m.code = boolByte (m = .pageFirst) := by cases m <;> rfl

theorem parseWindow_bytes {w : Window} (h : w.Spelled) : parseWindow w.bytes = some w := by
  obtain ⟨size, logical, physical⟩ := h
  have bytes : w.bytes = boolByte w.valid :: byteOf w.sizeExp :: byteOf (w.logicalBase / 65536) ::
      byteOf (w.logicalBase / 256) :: byteOf w.logicalBase :: (u16 w.physicalBase ++ (u16 w.readSet.toNat ++
      (u16 w.writeSet.toNat ++ [w.policy.code, w.content.code]))) := rfl
  have valid : boolOfByte (fieldAt w.bytes 0 1) = some w.valid := boolOfByte_boolByte rfl
  have policy : boolOfByte (fieldAt w.bytes 11 1) = some (decide (w.policy = .closeAfter)) :=
    boolOfByte_boolByte (by rw [← PagePolicy.code_eq]; rfl)
  have content : boolOfByte (fieldAt w.bytes 12 1) = some (decide (w.content = .discardable)) :=
    boolOfByte_boolByte (by rw [← ContentClass.code_eq]; rfl)
  have size' : fieldAt w.bytes 1 1 = w.sizeExp := by
    simp only [bytes, fieldAt_cons_skip, fieldAt_cons (n := w.sizeExp) (by omega)]
  have logical' : fieldAt w.bytes 2 3 = w.logicalBase := fieldAt_u24 rfl rfl rfl (by omega)
  have physical' : fieldAt w.bytes 5 2 = w.physicalBase := by
    simp only [bytes, fieldAt_cons_skip, fieldAt_u16_append (n := w.physicalBase) (by omega)]
  have read : fieldAt w.bytes 7 2 = w.readSet.toNat := by
    simp only [bytes, fieldAt_cons_skip, fieldAt_u16_skip, fieldAt_u16_append w.readSet.isLt]
  have write : fieldAt w.bytes 9 2 = w.writeSet.toNat := by
    simp only [bytes, fieldAt_cons_skip, fieldAt_u16_skip, fieldAt_u16_append w.writeSet.isLt]
  unfold parseWindow
  simp only [valid, policy, content, size', logical', physical', read, write]
  rw [if_pos ⟨rfl, size, logical, physical⟩, BitVec.ofNat_toNat, BitVec.ofNat_toNat]
  have pol : (if decide (w.policy = .closeAfter) then PagePolicy.closeAfter else .keepOpen) = w.policy := by
    cases w.policy <;> rfl
  have con : (if decide (w.content = .discardable) then ContentClass.discardable else .retained) = w.content := by
    cases w.content <;> rfl
  rw [pol, con, BitVec.setWidth_eq, BitVec.setWidth_eq]

theorem bytes_of_parseWindow {v : List Byte} {w : Window} (h : parseWindow v = some w) : w.Spelled ∧ w.bytes = v := by
  unfold parseWindow at h
  split at h
  next valid policy content hvalid hpolicy hcontent =>
    split at h
    next good =>
      obtain ⟨length, size, logical, physical⟩ := good
      cases h
      refine ⟨⟨size, logical, physical⟩, ?_⟩
      have sets (i : Nat) : (BitVec.ofNat 16 (fieldAt v i 2)).toNat = fieldAt v i 2 :=
        Nat.mod_eq_of_lt (fieldAt_two_lt v i)
      have flag_policy : (if policy then PagePolicy.closeAfter else .keepOpen).code = boolByte policy := by
        cases policy <;> rfl
      have flag_content : (if content then ContentClass.discardable else .retained).code = boolByte content := by
        cases content <;> rfl
      have pair (a b : Byte) : [a, b] = [a] ++ [b] := rfl
      simp only [Window.bytes, pair, sets, flag_policy, flag_content]
      rw [boolByte_field (by omega) hvalid, u8_field (i := 1) (by omega), u24_field (i := 2) (by omega),
        u16_field (i := 5) (by omega), u16_field (i := 7) (by omega), u16_field (i := 9) (by omega),
        boolByte_field (by omega) hpolicy, boolByte_field (by omega) hcontent]
      simp only [← List.append_assoc]
      rw [List.drop_zero, take_append_field v (n := 2) rfl, take_append_field v (n := 5) rfl,
        take_append_field v (n := 7) rfl, take_append_field v (n := 9) rfl, take_append_field v (n := 11) rfl,
        take_append_field v (n := 12) rfl, take_append_field v (n := 13) rfl, ← length, List.take_length]
    next => cases h
  next => cases h

/-! ### requester entries (R42) -/

/-- R42: the fields of a requester entry that its value spells lie in their ranges. -/
def Requester.Spelled (r : Requester) : Prop := r.quota ≤ 64 ∧ 1 ≤ r.ageLimit ∧ r.ageLimit ≤ 255

theorem parseRequester_bytes {r : Requester} (h : r.Spelled) : parseRequester r.bytes = some r := by
  obtain ⟨quota, age, top⟩ := h
  have enabled : boolOfByte (fieldAt r.bytes 0 1) = some r.enabled := boolOfByte_boolByte rfl
  have manager : boolOfByte (fieldAt r.bytes 1 1) = some r.manager := boolOfByte_boolByte rfl
  have order : boolOfByte (fieldAt r.bytes 3 1) = some (decide (r.order = .unordered)) :=
    boolOfByte_boolByte (by rw [← OrderMode.code_eq]; rfl)
  have ackPoint : boolOfByte (fieldAt r.bytes 4 1) = some (decide (r.ackPoint = .admission)) :=
    boolOfByte_boolByte (by rw [← AckPoint.code_eq]; rfl)
  have returnOrder : boolOfByte (fieldAt r.bytes 5 1) = some (decide (r.returnOrder = .leadFirst)) :=
    boolOfByte_boolByte (by rw [← ReturnOrder.code_eq]; rfl)
  have quota' : fieldAt r.bytes 2 1 = r.quota := fieldAt_u8 rfl (by omega)
  have age' : fieldAt r.bytes 6 1 = r.ageLimit := fieldAt_u8 rfl (by omega)
  unfold parseRequester
  simp only [enabled, manager, order, ackPoint, returnOrder, quota', age']
  rw [if_pos ⟨rfl, quota, age⟩]
  have om : (if decide (r.order = .unordered) then OrderMode.unordered else .ordered) = r.order := by
    cases r.order <;> rfl
  have ap : (if decide (r.ackPoint = .admission) then AckPoint.admission else .commit) = r.ackPoint := by
    cases r.ackPoint <;> rfl
  have ro : (if decide (r.returnOrder = .leadFirst) then ReturnOrder.leadFirst else .linear) = r.returnOrder := by
    cases r.returnOrder <;> rfl
  rw [om, ap, ro]

theorem bytes_of_parseRequester {v : List Byte} {r : Requester} (h : parseRequester v = some r) :
    r.Spelled ∧ r.bytes = v := by
  unfold parseRequester at h
  split at h
  next en mg om ap ro hen hmg hom hap hro =>
    split at h
    next good =>
      obtain ⟨length, quota, age⟩ := good
      cases h
      have top : fieldAt v 6 1 < 256 := by
        rw [fieldAt_one]
        exact BitVec.isLt _
      refine ⟨⟨quota, age, by dsimp only; omega⟩, ?_⟩
      have flag_order : (if om then OrderMode.unordered else .ordered).code = boolByte om := by cases om <;> rfl
      have flag_ack : (if ap then AckPoint.admission else .commit).code = boolByte ap := by cases ap <;> rfl
      have flag_return : (if ro then ReturnOrder.leadFirst else .linear).code = boolByte ro := by cases ro <;> rfl
      have each (a b c d e f g : Byte) : [a, b, c, d, e, f, g] = [a] ++ [b] ++ [c] ++ [d] ++ [e] ++ [f] ++ [g] := rfl
      simp only [Requester.bytes, each, flag_order, flag_ack, flag_return]
      rw [boolByte_field (by omega) hen, boolByte_field (by omega) hmg, u8_field (i := 2) (by omega),
        boolByte_field (by omega) hom, boolByte_field (by omega) hap, boolByte_field (by omega) hro,
        u8_field (i := 6) (by omega), List.drop_zero, take_append_field v (n := 2) rfl,
        take_append_field v (n := 3) rfl, take_append_field v (n := 4) rfl, take_append_field v (n := 5) rfl,
        take_append_field v (n := 6) rfl, take_append_field v (n := 7) rfl, ← length, List.take_length]
    next => cases h
  next => cases h

/-! ### LINK-SETTINGS (R130) and NOTICE-SETTINGS (R186) -/

/-- R130: the fields of LINK-SETTINGS that its value spells lie in their ranges. -/
def LinkSettings.Spelled (l : LinkSettings) : Prop := 1 ≤ l.ackTimeout ∧ l.ackTimeout ≤ 1023 ∧ l.holdTime ≤ 65535

theorem parseLinkSettings_bytes {l : LinkSettings} (h : l.Spelled) : parseLinkSettings l.bytes = some l := by
  obtain ⟨low, high, hold⟩ := h
  have ack : fieldAt l.bytes 0 2 = l.ackTimeout := fieldAt_u16 rfl rfl (by omega)
  have hold' : fieldAt l.bytes 2 2 = l.holdTime := fieldAt_u16 rfl rfl (by omega)
  unfold parseLinkSettings
  rw [ack, hold']
  exact if_pos ⟨rfl, low, high⟩

theorem bytes_of_parseLinkSettings {v : List Byte} {l : LinkSettings} (h : parseLinkSettings v = some l) :
    l.Spelled ∧ l.bytes = v := by
  unfold parseLinkSettings at h
  split at h
  next good =>
    obtain ⟨length, low, high⟩ := good
    cases h
    have hold := fieldAt_two_lt v 2
    refine ⟨⟨low, high, by dsimp only; omega⟩, ?_⟩
    simp only [LinkSettings.bytes]
    rw [u16_field (i := 0) (by omega), u16_field (i := 2) (by omega), List.drop_zero,
      take_append_field v (n := 4) rfl, ← length, List.take_length]
  next => cases h

theorem bytes_of_parseNoticeSettings {v : List Byte} {n : NoticeSettings} (h : parseNoticeSettings v = some n) :
    n.bytes = v := by
  unfold parseNoticeSettings at h
  split at h
  next => cases h
  next length =>
    have length := not_not.1 length
    split at h
    next =>
      cases h
      have pair (a b : Byte) : [a, b] = [a] ++ [b] := rfl
      simp only [NoticeSettings.bytes, pair]
      rw [u8_field (i := 0) (by omega), u8_field (i := 1) (by omega), List.drop_zero, take_append_field v (n := 2) rfl,
        ← length, List.take_length]
    next => cases h

/-! ### frames (R191, R192) -/

/-- R192: the bits of a string of bytes, each from its most significant bit to its least. -/
def checkedBits (bytes : List Byte) : List Bool :=
  bytes.flatMap fun x => [7, 6, 5, 4, 3, 2, 1, 0].map fun i => x.getLsbD i

theorem frameCheck_eq (bytes : List Byte) : frameCheck bytes = ~~~((checkedBits bytes).foldl crcBit 0xFFFFFFFF#32) := by
  unfold frameCheck checkedBits
  rw [List.foldl_flatMap]
  rfl

theorem checkBytes_eq (bytes : List Byte) :
    checkBytes bytes =
      [byteOf ((frameCheck bytes).toNat / 16777216), byteOf ((frameCheck bytes).toNat / 65536),
        byteOf ((frameCheck bytes).toNat / 256), byteOf (frameCheck bytes).toNat] := by
  have byte (c : BitVec 32) (k : Nat) : c.extractLsb' k 8 = byteOf (c.toNat / 2 ^ k) := by
    rw [byteOf, BitVec.extractLsb', Nat.shiftRight_eq_div_pow]
  unfold checkBytes
  simp only [byte, pow_zero, Nat.div_one, show 2 ^ 24 = 16777216 from rfl, show 2 ^ 16 = 65536 from rfl,
    show 2 ^ 8 = 256 from rfl]

theorem checkBytes_length (bytes : List Byte) : (checkBytes bytes).length = 4 := rfl

theorem parseFrame_bytes {f : Frame} (short : f.body.length ≤ 312) : parseFrame f.bytes = some f := by
  let head : List Byte := f.kind :: f.seq :: f.ack :: f.credit :: f.body
  have bytes : f.bytes = head ++ checkBytes head := rfl
  have length : f.bytes.length = head.length + 4 := by rw [bytes, List.length_append, checkBytes_length]
  have headLength : head.length = f.body.length + 4 := rfl
  unfold parseFrame
  rw [if_neg (by omega)]
  dsimp only
  rw [show f.bytes.length - 4 = head.length by omega, bytes, List.take_left, List.drop_left, if_pos rfl]

theorem bytes_of_parseFrame {bytes : List Byte} {f : Frame} (h : parseFrame bytes = some f) :
    f.bytes = bytes ∧ 8 ≤ bytes.length ∧ bytes.length ≤ 320 := by
  unfold parseFrame at h
  split at h
  next => cases h
  next length =>
    dsimp only at h
    split at h
    next check =>
      split at h
      next k s a c body head =>
        cases h
        refine ⟨?_, by omega, by omega⟩
        have whole : bytes.take (bytes.length - 4) ++ bytes.drop (bytes.length - 4) = bytes := List.take_append_drop _ _
        rw [check, head] at whole
        exact whole
      next => cases h
    next => cases h

/-! ### the part's frames (section 11.3) -/

/-- Section 11.3, note 2: bit p stands for frame position p. -/
theorem badMask_getLsbD (bad : List Nat) {p : Nat} (hp : p < 8) : (badMask bad).getLsbD p = decide (p ∈ bad) := by
  have fold (m : Byte) : (bad.foldl (fun m p => m ||| (1#8 <<< p)) m).getLsbD p = (m.getLsbD p || decide (p ∈ bad)) := by
    induction bad generalizing m with
    | nil => simp
    | cons q bad ih =>
      have one : (1#8 <<< q).getLsbD p = decide (p = q) := by
        rw [BitVec.getLsbD_shiftLeft, Bool.eq_iff_iff]
        simp only [hp, decide_true, Bool.true_and, BitVec.getLsbD_one, Bool.and_eq_true, Bool.not_eq_true',
          decide_eq_false_iff_not, decide_eq_true_eq]
        omega
      rw [List.foldl_cons, ih, BitVec.getLsbD_or, one, Bool.or_assoc]
      congr 1
      simp only [List.mem_cons, Bool.decide_or]
  exact (fold 0).trans (by simp)

/-- Settles O36: frames and their check, object values, and the part's frames. -/
theorem layoutsRoundTrip : Obligations.LayoutsRoundTrip := by
  unfold Obligations.LayoutsRoundTrip
  refine ⟨toNat_byteOf, ⟨fun f => parseFrame_bytes, fun bytes f => bytes_of_parseFrame, fun f => ?_, ?_⟩, ⟨?_, ?_, ?_, ?_,
    fun v n => bytes_of_parseNoticeSettings, fun t => parseTiming_bytes, fun w a b c => parseWindow_bytes ⟨a, b, c⟩,
    fun r a b c => parseRequester_bytes ⟨a, b, c⟩, fun l a b c => parseLinkSettings_bytes ⟨a, b, c⟩,
    parseNoticeSettings_bytes, fun t => ?_, fun w => ?_, fun r => ?_, fun l => rfl, fun n => rfl⟩, ?_⟩
  · intro head check
    exact congrArg (head ++ ·) (checkBytes_eq head)
  · refine ⟨fun bits => bits.foldl crcBit 0xFFFFFFFF#32, rfl, fun bits bit => ?_, frameCheck_eq⟩
    dsimp only
    rw [List.foldl_concat, crcBit]
    cases bit <;> cases (bits.foldl crcBit 0xFFFFFFFF#32).msb <;> rfl
  · exact fun v t h => (bytes_of_parseTiming h).2
  · exact fun v w h => (bytes_of_parseWindow h).2
  · exact fun v r h => (bytes_of_parseRequester h).2
  · exact fun v l h => (bytes_of_parseLinkSettings h).2
  · rw [Timing.bytes, MapMode.code_eq]
    rfl
  · rw [Window.bytes, PagePolicy.code_eq, ContentClass.code_eq]
    rfl
  · rw [Requester.bytes, OrderMode.code_eq, AckPoint.code_eq, ReturnOrder.code_eq]
    rfl
  · refine ⟨fun r tag st sz order lead bad payload => ⟨rfl, badMask bad, rfl, fun p hp => badMask_getLsbD bad hp⟩,
      fun _ _ _ => ⟨rfl, rfl⟩, fun _ _ => ⟨rfl, rfl⟩, fun _ _ _ _ => ⟨rfl, rfl⟩, fun _ _ _ => ⟨rfl, rfl⟩,
      fun _ _ _ _ _ => ⟨rfl, rfl⟩, fun d n => ⟨rfl, n.report.code, n.report.fields, rfl, ?_⟩, rfl, rfl, rfl, rfl, rfl, rfl,
      rfl, rfl, rfl, rfl, rfl⟩
    refine ⟨?_, ?_, ?_, ?_, ?_, ?_, ?_, ?_⟩
    all_goals
      intros
      simp only [*]
      exact ⟨rfl, rfl⟩

end Sys2Proof.Machine
end

section
/-! PROOFS. Management requests: what a request spells (R156, R160, R194), its tests and their order (O39), a request that
fails one (O38), and MANAGE_FRAME (O37). -/

namespace Sys2Proof.Machine

/-! ### what a request spells -/

/-- R156: the number of an object. -/
def Obj.number : Obj → Nat
  | .ident => 0x00
  | .partState => 0x01
  | .partControl => 0x02
  | .timing => 0x08
  | .window i => 0x10 + i.val
  | .requester r => 0x30 + r.val
  | .renewalStatus => 0x40
  | .lapseClear => 0x41
  | .linkStatus => 0x48
  | .linkSettings => 0x49
  | .faultCounters => 0x50
  | .noticeSettings => 0x58
  | .commitStatus => 0x59

theorem objectOf_number (o : Obj) : objectOf o.number = some o := by
  cases o
  case window i => exact (by decide : ∀ i : Fin 32, objectOf (0x10 + i.val) = some (.window i)) i
  case requester r => exact (by decide : ∀ r : Fin 16, objectOf (0x30 + r.val) = some (.requester r)) r
  all_goals rfl

theorem number_of_objectOf {n : Nat} {o : Obj} (h : objectOf n = some o) : n = o.number := by
  have numbered : ∀ n < 90, (objectOf n).all (fun o => n = o.number) = true := by decide
  by_cases small : n < 90
  · have all := numbered n small
    rw [h] at all
    simpa using all
  · have none : objectOf n = none := by
      unfold objectOf
      rw [if_neg (by omega), if_neg (by omega), if_neg (by omega), if_neg (by omega), if_neg (by omega),
        if_neg (by omega), if_neg (by omega), if_neg (by omega), if_neg (by omega), if_neg (by omega),
        if_neg (by omega), if_neg (by omega), if_neg (by omega)]
    rw [none] at h
    cases h

theorem objectOf_eq_some {n : Nat} {o : Obj} : objectOf n = some o ↔ n = o.number :=
  ⟨number_of_objectOf, fun h => h ▸ objectOf_number o⟩

section
variable {body : List Byte}

/-- Section 11.3: the operation codes. -/
theorem mopOf_eq_some {b : Byte} (h : body[2]? = some b) :
    mopOf body = if b = 0 then .get else if b = 1 then .set else if b = 2 then .commit else if b = 3 then .discard
      else if b = 4 then .action else .other := by
  unfold mopOf
  rw [h]

theorem mopOf_none (h : body[2]? = none) : mopOf body = .other := by
  unfold mopOf
  rw [h]

theorem mopOf_codes (body : List Byte) :
    (mopOf body = .get ↔ body[2]? = some 0) ∧ (mopOf body = .set ↔ body[2]? = some 1) ∧
      (mopOf body = .commit ↔ body[2]? = some 2) ∧ (mopOf body = .discard ↔ body[2]? = some 3) ∧
      (mopOf body = .action ↔ body[2]? = some 4) := by
  cases h : body[2]? with
  | none => simp [mopOf_none h]
  | some b =>
    rw [mopOf_eq_some h]
    simp only [Option.some.injEq]
    by_cases h0 : b = 0
    · subst h0; decide
    by_cases h1 : b = 1
    · subst h1; decide
    by_cases h2 : b = 2
    · subst h2; decide
    by_cases h3 : b = 3
    · subst h3; decide
    by_cases h4 : b = 4
    · subst h4; decide
    rw [if_neg h0, if_neg h1, if_neg h2, if_neg h3, if_neg h4]
    have differ {op : MOp} {c : Byte} (other : MOp.other ≠ op) (hc : b ≠ c) : MOp.other = op ↔ b = c :=
      ⟨fun h => absurd h other, fun h => absurd h hc⟩
    exact ⟨differ (by decide) h0, differ (by decide) h1, differ (by decide) h2, differ (by decide) h3,
      differ (by decide) h4⟩

/-- R160, R194: the object and the code of an action. -/
def Act.obj : Act → Obj
  | .enterRetain | .leaveRetain | .resetPart => .partControl
  | .lapseClear => .lapseClear
  | .clear => .faultCounters

def Act.code : Act → Byte
  | .enterRetain | .lapseClear | .clear => 1
  | .leaveRetain => 2
  | .resetPart => 3

theorem actOf_obj (a : Act) : actOf a.obj a.code.toNat = some a := by cases a <;> rfl

theorem of_actOf {o : Obj} {c : Nat} {a : Act} (h : actOf o c = some a) : o = a.obj ∧ c = a.code.toNat := by
  unfold actOf at h
  split at h
  · split at h
    · cases h; exact ⟨rfl, by assumption⟩
    · split at h
      · cases h; exact ⟨rfl, by assumption⟩
      · split at h
        · cases h; exact ⟨rfl, by assumption⟩
        · cases h
  · split at h
    · cases h; exact ⟨rfl, by assumption⟩
    · cases h
  · split at h
    · cases h; exact ⟨rfl, by assumption⟩
    · cases h
  · cases h

theorem bodyAct_eq_some {a : Act} :
    bodyAct body = some a ↔ objOf body = a.obj.number ∧ body[7]? = some a.code := by
  have value : (valueOf body)[0]? = body[7]? := by
    rw [valueOf, List.getElem?_drop]
  unfold bodyAct
  rw [value]
  constructor
  · intro h
    split at h
    next o c obj code =>
      obtain ⟨rfl, same⟩ := of_actOf h
      refine ⟨objectOf_eq_some.1 obj, ?_⟩
      rw [code, BitVec.eq_of_toNat_eq same]
    next => cases h
  · rintro ⟨obj, code⟩
    rw [objectOf_eq_some.2 obj, code]
    exact actOf_obj a

/-- The object byte of a body that names a small object number; a missing one reads as 0. -/
theorem objOf_eq {n : Byte} (positive : n ≠ 0) : objOf body = n.toNat ↔ body[3]? = some n := by
  rw [objOf, fieldAt_one, List.getD_eq_getElem?_getD]
  cases body[3]? with
  | none =>
    simp only [Option.getD_none, reduceCtorEq, iff_false]
    exact fun same => positive (BitVec.eq_of_toNat_eq same).symm
  | some b =>
    simp only [Option.getD_some, Option.some.injEq]
    exact ⟨fun same => BitVec.eq_of_toNat_eq same, fun same => same ▸ rfl⟩

end

/-! ### the row of a request (log 25) -/

/-- Log 25: the row of an action. -/
def Act.row : Act → Row
  | .enterRetain => .enterRetain
  | .leaveRetain => .leaveRetain
  | .resetPart => .resetPart
  | .lapseClear => .lapseClear
  | .clear => .clear

theorem rowOf_action {body : List Byte} {a : Act} (op : mopOf body = .action) (act : bodyAct body = some a) :
    rowOf body = a.row := by
  unfold rowOf
  rw [op, act]
  cases a <;> rfl

/-! ### what a SET's value must hold (R17, R33, R42, R130, R186) -/

section
variable {v : List Byte}

theorem mapModeOf_isSome (n : Nat) : (mapModeOf n).isSome = true ↔ n ≤ 1 := by
  unfold mapModeOf
  split
  · simp [*]
  · split
    · simp [*]
    · simp
      omega

/-- The timing profile whose fields a value carries, under a map mode. -/
def timingAt (v : List Byte) (m : MapMode) : Timing :=
  { tOa := fieldAt v 0 2, tDwell := fieldAt v 2 2, tClose := fieldAt v 4 2, tWrec := fieldAt v 6 2,
    tRd := fieldAt v 8 2, tWr := fieldAt v 10 2, tRen := fieldAt v 12 2, tOo := fieldAt v 14 2,
    tQuad := fieldAt v 16 2, tTurn := fieldAt v 18 2, tExit := fieldAt v 20 2, renewalInterval := fieldAt v 22 1,
    renewalRate := fieldAt v 23 1, urgentLevel := fieldAt v 24 1, idleClose := fieldAt v 25 2, mapMode := m }

theorem parseTiming_isSome : (parseTiming v).isSome = true ↔
    ∃ m, mapModeOf (fieldAt v 27 1) = some m ∧ v.length = 28 ∧ (timingAt v m).badField = none := by
  unfold parseTiming
  constructor
  · intro h
    split at h
    next m mode =>
      dsimp only at h
      split at h
      next good => exact ⟨m, mode, good⟩
      next => cases h
    next => cases h
  · rintro ⟨m, mode, good⟩
    rw [mode]
    dsimp only
    rw [if_pos (by exact good)]
    rfl

theorem parseWindow_isSome : (parseWindow v).isSome = true ↔
    v.length = 13 ∧ fieldAt v 0 1 ≤ 1 ∧ fieldAt v 1 1 ≤ 10 ∧ fieldAt v 2 3 ≤ 1048575 ∧ fieldAt v 5 2 ≤ 1023 ∧
      fieldAt v 11 1 ≤ 1 ∧ fieldAt v 12 1 ≤ 1 := by
  rw [← boolOfByte_isSome, ← boolOfByte_isSome, ← boolOfByte_isSome]
  unfold parseWindow
  cases boolOfByte (fieldAt v 0 1) with
  | none => simp
  | some a =>
    cases boolOfByte (fieldAt v 11 1) with
    | none => simp
    | some b =>
      cases boolOfByte (fieldAt v 12 1) with
      | none => simp
      | some c => simp [Option.isSome_ite]

theorem parseRequester_isSome : (parseRequester v).isSome = true ↔
    v.length = 7 ∧ fieldAt v 0 1 ≤ 1 ∧ fieldAt v 1 1 ≤ 1 ∧ fieldAt v 2 1 ≤ 64 ∧ fieldAt v 3 1 ≤ 1 ∧ fieldAt v 4 1 ≤ 1 ∧
      fieldAt v 5 1 ≤ 1 ∧ 1 ≤ fieldAt v 6 1 := by
  rw [← boolOfByte_isSome, ← boolOfByte_isSome, ← boolOfByte_isSome, ← boolOfByte_isSome, ← boolOfByte_isSome]
  unfold parseRequester
  cases boolOfByte (fieldAt v 0 1) with
  | none => simp
  | some a =>
    cases boolOfByte (fieldAt v 1 1) with
    | none => simp
    | some b =>
      cases boolOfByte (fieldAt v 3 1) with
      | none => simp
      | some c =>
        cases boolOfByte (fieldAt v 4 1) with
        | none => simp
        | some d =>
          cases boolOfByte (fieldAt v 5 1) with
          | none => simp
          | some e => simp [Option.isSome_ite]

theorem parseLinkSettings_isSome : (parseLinkSettings v).isSome = true ↔
    v.length = 4 ∧ 1 ≤ fieldAt v 0 2 ∧ fieldAt v 0 2 ≤ 1023 := by
  unfold parseLinkSettings
  simp [Option.isSome_ite]

theorem parseNoticeSettings_isSome : (parseNoticeSettings v).isSome = true ↔ v.length = 2 ∧ fieldAt v 0 1 ≤ 15 := by
  unfold parseNoticeSettings
  by_cases length : v.length = 2
  · rw [if_neg (not_not.2 length)]
    by_cases small : fieldAt v 0 1 < 16
    · rw [dif_pos small]
      exact ⟨fun _ => ⟨length, by omega⟩, fun _ => rfl⟩
    · rw [dif_neg small]
      exact ⟨fun no => (by cases no), fun good => absurd (by omega) small⟩
  · rw [if_pos length]
    exact ⟨fun no => (by cases no), fun good => absurd good.1 length⟩

theorem Timing.bad_of_field {t : Timing} {i v lo hi : Nat} (field : t.fields[i]? = some (v, lo, hi)) :
    t.Bad i ↔ v < lo ∨ hi < v ∨ i = 12 ∧ v = 3 := by
  constructor
  · rintro ⟨v', lo', hi', field', bad⟩
    cases field.symm.trans field'
    exact bad
  · exact fun bad => ⟨v, lo, hi, field, bad⟩

theorem timingAt_fields (v : List Byte) (m : MapMode) {k : Nat} (hk : k < 9) :
    (timingAt v m).fields[k]? = some (fieldAt v (2 * k) 2, 1, 1023) := by
  interval_cases k <;> rfl

/-- R17: the ranges of the timing profile that a value carries. -/
theorem timingAt_good (v : List Byte) (m : MapMode) : (timingAt v m).badField = none ↔
    (∀ k < 9, 1 ≤ fieldAt v (2 * k) 2 ∧ fieldAt v (2 * k) 2 ≤ 1023) ∧ fieldAt v 18 2 ≤ 1023 ∧
      (1 ≤ fieldAt v 20 2 ∧ fieldAt v 20 2 ≤ 1023) ∧ (8 ≤ fieldAt v 22 1 ∧ fieldAt v 22 1 ≤ 128) ∧
      (fieldAt v 23 1 = 1 ∨ fieldAt v 23 1 = 2 ∨ fieldAt v 23 1 = 4) ∧ (1 ≤ fieldAt v 24 1 ∧ fieldAt v 24 1 ≤ 8) ∧
      fieldAt v 25 2 ≤ 1023 := by
  constructor
  · intro good
    have range {i x lo hi : Nat} (field : (timingAt v m).fields[i]? = some (x, lo, hi)) :=
      Timing.range_of_good good field
    have rate := range (i := 12) rfl
    dsimp only [timingAt] at rate
    refine ⟨fun k hk => ?_, (range (i := 9) rfl).2.1, ?_, ?_, by omega, ?_, (range (i := 14) rfl).2.1⟩
    · have field := range (timingAt_fields v m hk)
      exact ⟨field.1, field.2.1⟩
    · exact ⟨(range (i := 10) rfl).1, (range (i := 10) rfl).2.1⟩
    · exact ⟨(range (i := 11) rfl).1, (range (i := 11) rfl).2.1⟩
    · exact ⟨(range (i := 13) rfl).1, (range (i := 13) rfl).2.1⟩
  · rintro ⟨first, turn, exit, interval, rate, urgent, idle⟩
    rw [Timing.badField_eq_none]
    intro i bad
    have last := Timing.bad_lt bad
    rcases Nat.lt_or_ge i 9 with early | late
    · have bad := (Timing.bad_of_field (timingAt_fields v m early)).1 bad
      have := first i early
      omega
    · rcases Nat.lt_or_ge i 15 with middle | mapMode
      · interval_cases i
        all_goals
          have bad := (Timing.bad_of_field rfl).1 bad
          dsimp only [timingAt] at bad
          omega
      · obtain rfl : i = 15 := by omega
        have bad := (Timing.bad_of_field rfl).1 bad
        dsimp only [timingAt] at bad
        cases m <;> simp [MapMode.code] at bad

end

/-! ### the tests (R154) -/

section
variable {s : State} {body : List Byte}

theorem byteOf_req (r : ReqNo) : (byteOf r.val).toNat = r.val := by
  rw [toNat_byteOf]
  exact Nat.mod_eq_of_lt (by omega)

theorem formGood_iff : formGood body = true ↔ 7 ≤ body.length ∧ (∃ r : ReqNo, body[0]? = some (byteOf r.val)) ∧
    mopOf body ≠ .other ∧ ∃ n : Byte, body[6]? = some n ∧ body.length = 7 + n.toNat := by
  simp only [formGood, Bool.and_eq_true, decide_eq_true_eq, and_assoc]
  constructor
  · rintro ⟨length, requester, op, value⟩
    refine ⟨length, ⟨⟨fieldAt body 0 1, requester⟩, getElem?_of_fieldAt (by omega)⟩, op, byteOf (fieldAt body 6 1),
      getElem?_of_fieldAt (by omega), ?_⟩
    have small : fieldAt body 6 1 < 256 := by
      rw [fieldAt_one]
      exact BitVec.isLt _
    rw [toNat_byteOf, Nat.mod_eq_of_lt small]
    exact value
  · rintro ⟨length, ⟨r, requester⟩, op, n, count, value⟩
    refine ⟨length, ?_, op, ?_⟩
    · rw [fieldAt_one_of requester, byteOf_req]
      exact r.isLt
    · rw [fieldAt_one_of count]
      exact value

theorem State.actsAsManager_iff (s : State) (r : ReqNo) : s.actsAsManager r.val = true ↔
    (s.mgmt.active.requesters.get r).enabled = true ∧ (s.mgmt.active.requesters.get r).manager = true := by
  unfold State.actsAsManager
  rw [dif_pos r.isLt]
  exact Bool.and_eq_true_iff

/-- R43, R154 test 2: the requester that the body names acts as a manager. -/
theorem State.actsAsManager_body (r : ReqNo) (requester : body[0]? = some (byteOf r.val)) :
    s.actsAsManager (fieldAt body 0 1) = true ↔ ∃ r : ReqNo, body[0]? = some (byteOf r.val) ∧
      (s.mgmt.active.requesters.get r).enabled = true ∧ (s.mgmt.active.requesters.get r).manager = true := by
  rw [fieldAt_one_of requester, byteOf_req, s.actsAsManager_iff]
  constructor
  · exact fun rights => ⟨r, requester, rights⟩
  · rintro ⟨r', requester', rights⟩
    have same := (Option.some.inj (requester.symm.trans requester'))
    have : r = r' := Fin.ext (by rw [← byteOf_req r, same, byteOf_req])
    exact this ▸ rights

/-- R154 tests 4 to 6: what the object named answers. -/
def objectAnswer (body : List Byte) : Option MStatus :=
  match objectOf (objOf body) with
  | none => some .unknownObject
  | some o => objectTests (mopOf body) o body

/-! The tests in order: the first that fails answers. -/

theorem State.requestTests_form (bad : ¬formGood body = true) : s.requestTests body = some .badValue := by
  simp [State.requestTests, bad]

theorem State.requestTests_right (form : formGood body = true) (op : mopOf body ≠ .get)
    (denied : ¬s.actsAsManager (fieldAt body 0 1) = true) : s.requestTests body = some .denied := by
  simp [State.requestTests, form, op, denied]

variable (form : formGood body = true) (right : mopOf body = .get ∨ s.actsAsManager (fieldAt body 0 1) = true)
include form right

theorem State.requestTests_held (held : (mopOf body = .set ∨ mopOf body = .commit ∨ mopOf body = .discard) ∧
    s.mgmt.commit.state ≠ .none) : s.requestTests body = some .busy := by
  have passes : ¬(mopOf body ≠ .get ∧ (!s.actsAsManager (fieldAt body 0 1)) = true) := by
    rcases right with op | rights <;> simp [*]
  simp only [State.requestTests, form, Bool.not_true, Bool.false_eq_true, if_false]
  rw [if_neg passes, if_pos held]

variable (free : ¬((mopOf body = .set ∨ mopOf body = .commit ∨ mopOf body = .discard) ∧ s.mgmt.commit.state ≠ .none))
include free

/-- The first three tests pass. -/
theorem State.requestTests_rest : s.requestTests body =
    if mopOf body = .commit ∨ mopOf body = .discard then none else objectAnswer body := by
  have passes : ¬(mopOf body ≠ .get ∧ (!s.actsAsManager (fieldAt body 0 1)) = true) := by
    rcases right with op | rights <;> simp [*]
  simp only [State.requestTests, form, Bool.not_true, Bool.false_eq_true, if_false]
  rw [if_neg passes, if_neg free]
  rfl

theorem State.requestTests_moves (op : mopOf body = .commit ∨ mopOf body = .discard) : s.requestTests body = none := by
  rw [State.requestTests_rest form right free, if_pos op]

theorem State.requestTests_noObject (op : ¬(mopOf body = .commit ∨ mopOf body = .discard))
    (object : objectOf (objOf body) = none) : s.requestTests body = some .unknownObject := by
  rw [State.requestTests_rest form right free, if_neg op, objectAnswer, object]

theorem State.requestTests_object {o : Obj} (op : ¬(mopOf body = .commit ∨ mopOf body = .discard))
    (object : objectOf (objOf body) = some o) : s.requestTests body = objectTests (mopOf body) o body := by
  rw [State.requestTests_rest form right free, if_neg op, objectAnswer, object]

end

/-! Tests 5 and 6 of each operation. -/

section
variable {o : Obj} {body : List Byte}

theorem objectTests_get : objectTests .get o body = if idxOf body ≤ o.lastIndex then none else some .badValue := rfl

theorem objectTests_set_readOnly (other : ¬(o = .noticeSettings ∨ o.staged = true ∧ copyActive body = false)) :
    objectTests .set o body = some .readOnly := by
  unfold objectTests
  refine if_pos ?_
  cases o <;> cases copy : copyActive body <;> simp_all [Obj.staged]

theorem objectTests_set (writes : o = .noticeSettings ∨ o.staged = true ∧ copyActive body = false) :
    objectTests .set o body =
      if idxOf body ≤ o.lastIndex ∧ setValueGood o (valueOf body) = true then none else some .badValue := by
  have permitted : (!(o.staged || decide (o = .noticeSettings)) || (o.staged && copyActive body)) = false := by
    rcases writes with rfl | ⟨staged, copy⟩
    · simp [Obj.staged]
    · simp [staged, copy]
  unfold objectTests
  dsimp only
  rw [permitted]
  simp

theorem objectTests_action_readOnly (none : o.acts = false) : objectTests .action o body = some .readOnly := by
  unfold objectTests
  dsimp only
  rw [none]
  rfl

theorem objectTests_action_none (acts : o.acts = true) (none : bodyAct body = none) :
    objectTests .action o body = some .badValue := by
  unfold objectTests
  dsimp only
  rw [acts, none]
  rfl

theorem objectTests_action {a : Act} (acts : o.acts = true) (act : bodyAct body = some a) :
    objectTests .action o body =
      if (idxOf body ≤ o.lastIndex ∨ a = .clear) ∧ (valueOf body).length = a.valueLength then none
      else some .badValue := by
  unfold objectTests
  dsimp only
  rw [acts, act]
  simp

end

/-! ### the obligations -/

/-- R17, R33, R42, R130, R186: what a SET's value must hold, object by object. -/
theorem setValueGood_timing (v : List Byte) : setValueGood .timing v = true ↔ v.length = 28 ∧
    (∀ k < 9, 1 ≤ fieldAt v (2 * k) 2 ∧ fieldAt v (2 * k) 2 ≤ 1023) ∧ fieldAt v 18 2 ≤ 1023 ∧
      (1 ≤ fieldAt v 20 2 ∧ fieldAt v 20 2 ≤ 1023) ∧ (8 ≤ fieldAt v 22 1 ∧ fieldAt v 22 1 ≤ 128) ∧
      (fieldAt v 23 1 = 1 ∨ fieldAt v 23 1 = 2 ∨ fieldAt v 23 1 = 4) ∧ (1 ≤ fieldAt v 24 1 ∧ fieldAt v 24 1 ≤ 8) ∧
      fieldAt v 25 2 ≤ 1023 ∧ fieldAt v 27 1 ≤ 1 := by
  have modes : fieldAt v 27 1 ≤ 1 ↔ ∃ m, mapModeOf (fieldAt v 27 1) = some m := by
    rw [← mapModeOf_isSome, Option.isSome_iff_exists]
  rw [setValueGood, parseTiming_isSome, modes]
  constructor
  · rintro ⟨m, mode, length, good⟩
    obtain ⟨first, turn, exit, interval, rate, urgent, idle⟩ := (timingAt_good v m).1 good
    exact ⟨length, first, turn, exit, interval, rate, urgent, idle, m, mode⟩
  · rintro ⟨length, first, turn, exit, interval, rate, urgent, idle, m, mode⟩
    exact ⟨m, mode, length, (timingAt_good v m).2 ⟨first, turn, exit, interval, rate, urgent, idle⟩⟩

/-- Settles O39: the fields and codes that the tests read, the values that a SET may carry, then the tests in order. -/
theorem requestTestOrder : Obligations.RequestTestOrder := by
  unfold Obligations.RequestTestOrder
  refine ⟨fun body => ⟨mopOf_codes body, fun b h => fieldAt_one_of h, fun b h => fieldAt_one_of h, fun b h => ?_, rfl,
    fun a => ?_⟩, fun body => ?_, fun a => by cases a <;> rfl, fun n o => ?_, fun o => ?_, fun o v => ?_,
    fun s body => ?_⟩
  · rw [copyActive, decide_eq_true_eq, fieldAt_one_of h]
    exact ⟨fun zero => BitVec.eq_of_toNat_eq zero, fun zero => zero ▸ rfl⟩
  · rw [bodyAct_eq_some]
    cases a
    case enterRetain | leaveRetain | resetPart => exact and_congr_left' (objOf_eq (n := 0x02) (by decide))
    case lapseClear => exact and_congr_left' (objOf_eq (n := 0x41) (by decide))
    case clear => exact and_congr_left' (objOf_eq (n := 0x50) (by decide))
  · unfold rowOf
    cases mopOf body with
    | set =>
      cases objectOf (objOf body) with
      | none => rfl
      | some o => cases o <;> rfl
    | action =>
      cases bodyAct body with
      | none => rfl
      | some a => cases a <;> rfl
    | _ => rfl
  · rw [objectOf_eq_some]
    cases o <;> exact Iff.rfl
  · cases o <;> simp [Obj.lastIndex, Obj.staged, Obj.acts]
  · intro num within
    have low (n m : Nat) : within n 0 m ↔ n ≤ m := and_iff_right (Nat.zero_le n)
    have byte (i : Nat) : num i 1 ≤ 255 := by
      have : fieldAt v i 1 < 256 := by
        rw [fieldAt_one]
        exact BitVec.isLt _
      exact Nat.le_of_lt_succ this
    cases o with
    | timing =>
      simp only [low]
      exact setValueGood_timing v
    | window i =>
      simp only [low]
      exact parseWindow_isSome
    | requester r =>
      simp only [low]
      refine parseRequester_isSome.trans ⟨?_, ?_⟩
      · rintro ⟨length, en, mg, quota, om, ap, ro, age⟩
        exact ⟨length, en, mg, quota, om, ap, ro, age, byte 6⟩
      · rintro ⟨length, en, mg, quota, om, ap, ro, age, -⟩
        exact ⟨length, en, mg, quota, om, ap, ro, age⟩
    | linkSettings => exact parseLinkSettings_isSome
    | noticeSettings =>
      simp only [low]
      exact parseNoticeSettings_isSome
    | _ => exact ⟨fun no => (by cases no), False.elim⟩
  · intro op form right held
    have spelled : formGood body = true ↔ form := formGood_iff
    have rights (hform : form) : right ↔ op = .get ∨ s.actsAsManager (fieldAt body 0 1) = true := by
      obtain ⟨-, ⟨r, requester⟩, -, -⟩ := hform
      exact or_congr_right (State.actsAsManager_body r requester).symm
    refine ⟨spelled, s.actsAsManager_iff, fun bad => State.requestTests_form (mt spelled.1 bad), fun good denied => ?_,
      fun good allowed busy => ?_, fun good allowed free moves => ?_, fun good allowed free ops object => ?_,
      fun o good allowed free object => ?_⟩
    · have denied := mt (rights good).2 denied
      exact State.requestTests_right (spelled.2 good) (fun get => denied (.inl get)) fun manager => denied (.inr manager)
    · exact State.requestTests_held (spelled.2 good) ((rights good).1 allowed) busy
    · exact State.requestTests_moves (spelled.2 good) ((rights good).1 allowed) free moves
    · refine State.requestTests_noObject (spelled.2 good) ((rights good).1 allowed) free ?_ object
      show ¬(op = .commit ∨ op = .discard)
      rcases ops with h | h | h <;> rw [h] <;> decide
    · have answer (ops : ¬(op = .commit ∨ op = .discard)) : s.requestTests body = objectTests op o body :=
        State.requestTests_object (spelled.2 good) ((rights good).1 allowed) free ops object
      intro indexGood
      refine ⟨fun get => ?_, fun set => ?_, fun action => ?_⟩
      · rw [answer (by rw [get]; decide), get, objectTests_get]
        by_cases index : idxOf body ≤ o.lastIndex
        · rw [if_pos index]
          exact ⟨⟨fun _ => index, fun _ => rfl⟩, ⟨fun no => (by cases no), fun no => absurd index no⟩⟩
        · rw [if_neg index]
          exact ⟨⟨fun no => (by cases no), fun yes => absurd yes index⟩, ⟨fun _ => index, fun _ => rfl⟩⟩
      · rw [answer (by rw [set]; decide), set]
        exact ⟨objectTests_set_readOnly, fun writes value => (objectTests_set writes).trans (if_pos value),
          fun writes value => (objectTests_set writes).trans (if_neg value)⟩
      · rw [answer (by rw [action]; decide), action]
        exact ⟨objectTests_action_readOnly, objectTests_action_none, fun a acts act =>
          ⟨fun value => (objectTests_action acts act).trans (if_pos value),
            fun value => (objectTests_action acts act).trans (if_neg value)⟩⟩

end Sys2Proof.Machine
end

section
/-! PROOFS. Management requests taken: a request that fails a test (O38), MANAGE_FRAME (O37), GET (O40), SET (O41), the
clears (O48), and the retain actions (O49). -/

namespace Sys2Proof.Machine

/-! ### echoes (R155, R193) -/

section
variable {s : State} {row : Row} {body : List Byte} {rest : List (List Byte)}

theorem State.echoOf_holds (s : State) (body : List Byte) : (s.echoOf body).HoldsOf body := by
  have byte (i : Nat) (x : Byte) (h : body[i]? = some x) : s.echoByte body i = x := by
    rw [State.echoByte, List.getD_eq_getElem?_getD, h]
    rfl
  exact ⟨byte 0, byte 1, byte 2, byte 3, byte 4⟩

theorem State.echoed_short (short : body.length < 5) : s.echoed body 5 = { s with draws := s.draws + 1 } := if_pos short

theorem State.echoed_long (long : 5 ≤ body.length) : s.echoed body 5 = s := if_neg long.not_gt

/-! ### a request that fails a test (R154) -/

theorem objectTests_ne_ok (op : MOp) (o : Obj) (body : List Byte) : objectTests op o body ≠ some .ok := by
  unfold objectTests
  split
  · split <;> decide
  · split
    · decide
    · split <;> decide
  · split
    · decide
    · split
      · split <;> decide
      · decide
  all_goals decide

/-- No test answers OK. -/
theorem State.requestTests_ne_ok (s : State) (body : List Byte) : s.requestTests body ≠ some .ok := by
  unfold State.requestTests
  dsimp only
  split
  · decide
  · split
    · decide
    · split
      · decide
      · split
        · decide
        · split
          · decide
          · exact objectTests_ne_ok _ _ _

/-- What the first three tests found where a request passes. -/
theorem State.of_passes (passes : s.requestTests body = none) :
    formGood body = true ∧ (mopOf body = .get ∨ s.actsAsManager (fieldAt body 0 1) = true) ∧
      ¬((mopOf body = .set ∨ mopOf body = .commit ∨ mopOf body = .discard) ∧ s.mgmt.commit.state ≠ .none) := by
  have form : formGood body = true := by
    by_contra bad
    rw [State.requestTests_form bad] at passes
    cases passes
  have right : mopOf body = .get ∨ s.actsAsManager (fieldAt body 0 1) = true := by
    by_contra denied
    rw [not_or] at denied
    rw [State.requestTests_right form denied.1 denied.2] at passes
    cases passes
  refine ⟨form, right, fun held => ?_⟩
  rw [State.requestTests_held form right held] at passes
  cases passes

/-- R154: a request that no operation carries out fails a test. -/
theorem State.requestTests_unknown (row : rowOf body = .unknown) : s.requestTests body ≠ none := by
  intro passes
  obtain ⟨good, right, free⟩ := State.of_passes passes
  have op : mopOf body = .action ∧ bodyAct body = none := by
    have known := (formGood_iff.1 good).2.2.1
    cases op : mopOf body with
    | other => exact absurd op known
    | action =>
      cases act : bodyAct body with
      | none => exact ⟨rfl, rfl⟩
      | some a =>
        rw [rowOf_action op act] at row
        cases a <;> cases row
    | set =>
      unfold rowOf at row
      rw [op] at row
      dsimp only at row
      split at row <;> cases row
    | get | commit | discard =>
      unfold rowOf at row
      rw [op] at row
      cases row
  obtain ⟨op, act⟩ := op
  have acts : ¬(mopOf body = .commit ∨ mopOf body = .discard) := by rw [op]; decide
  cases object : objectOf (objOf body) with
  | none =>
    rw [State.requestTests_noObject good right free acts object] at passes
    cases passes
  | some o =>
    rw [State.requestTests_object good right free acts object, op] at passes
    cases carries : o.acts with
    | false =>
      rw [objectTests_action_readOnly carries] at passes
      cases passes
    | true =>
      rw [objectTests_action_none carries act] at passes
      cases passes

/-- Log 14: a request that carries fewer than its five echoed bytes fails test 1. -/
theorem State.takeRow_short (queue : s.mgmt.queue = body :: rest) (replies : s.mgmt.replies = [])
    (waits : s.mgmt.resetTaken = false) (short : body.length < 5) (run : State → List Byte → Echo → State) :
    s.takeRow (rowOf body) run =
      { s with
        draws := s.draws + 1
        mgmt :=
          { s.mgmt with queue := rest, replies := [.manageReply (s.echoOf body) .badValue .none 0 []] } } := by
  have fails : s.requestTests body = some .badValue :=
    State.requestTests_form fun good => absurd (formGood_iff.1 good).1 (by omega)
  have takes : (s.mgmt.mayTake && decide (rowOf body = rowOf body)) = true := by simp [Mgmt.mayTake, replies, waits]
  unfold State.takeRow
  rw [queue]
  dsimp only
  rw [if_pos takes, fails]
  dsimp only
  rw [State.echoed_short short]
  simp [State.reply, replies]

end

/-- Settles O38: the test's status is answered; the unknown row has such a status; so has a short body. -/
theorem failingRequestChangesNothing : Obligations.FailingRequestChangesNothing := by
  unfold Obligations.FailingRequestChangesNothing
  refine ⟨fun row s body rest st h fails => ?_, fun s body rest h => ?_, fun s body rest running queue replies waits short => ?_⟩
  · rw [exec_row]
    exact h.event_fails fails row.run
  · obtain ⟨st, fails⟩ := Option.ne_none_iff_exists'.1 (State.requestTests_unknown (s := s) h.row_eq)
    exact ⟨st, fun ok => s.requestTests_ne_ok body (ok ▸ fails), h.event_fails fails _⟩
  · refine ⟨s.echoOf body, s.echoOf_holds body, ?_⟩
    rw [exec_row, State.event_running running, State.takeRow_short queue replies waits short]

/-- Settles O37: the queue has room, or the busy hold takes the answer, or the frame stays. -/
theorem manageFrameTaken : Obligations.ManageFrameTaken := by
  unfold Obligations.ManageFrameTaken
  intro s f running found link busy
  have run : exec .manageFrame s =
      .next (if s.mgmt.queue.length < 4 then
        ({ s with mgmt := { s.mgmt with queue := s.mgmt.queue ++ [f.body] } } : State).dropRx RxFrame.isManage
      else if s.mgmt.busyHold = none then (s.busyReply f.body).dropRx RxFrame.isManage
      else s) := by
    show execManageFrame s = _
    rw [execManageFrame, State.event_running running]
    rw [found]
  rw [run]
  refine ⟨fun room => ?_, fun full free long => ?_, fun full free short => ⟨s.echoOf f.body, s.echoOf_holds f.body, ?_⟩,
    fun full held => ?_⟩
  · rw [if_pos room]
    rfl
  · rw [if_neg full.not_gt, if_pos free, State.busyReply, State.echoed_long long, s.echoOf_eq long]
    rfl
  · rw [if_neg full.not_gt, if_pos free, State.busyReply, State.echoed_short short]
    rfl
  · rw [if_neg full.not_gt, if_neg held]

/-! ### GET (R157) -/

section
variable {s : State} {body : List Byte} {rest : List (List Byte)} {o : Obj}

theorem mopOf_of_rowOf_get (row : rowOf body = .get) : mopOf body = .get := by
  cases op : mopOf body with
  | get => rfl
  | action =>
    cases act : bodyAct body with
    | some a =>
      rw [rowOf_action op act] at row
      cases a <;> cases row
    | none =>
      unfold rowOf at row
      rw [op, act] at row
      cases row
  | set =>
    unfold rowOf at row
    rw [op] at row
    dsimp only at row
    split at row <;> cases row
  | commit | discard | other =>
    unfold rowOf at row
    rw [op] at row
    cases row

theorem mopOf_of_rowOf_set (row : rowOf body = .set) :
    mopOf body = .set ∧ objectOf (objOf body) ≠ some .noticeSettings := by
  cases op : mopOf body with
  | set =>
    unfold rowOf at row
    rw [op] at row
    dsimp only at row
    split at row
    next => cases row
    next other => exact ⟨rfl, other⟩
  | action =>
    cases act : bodyAct body with
    | some a =>
      rw [rowOf_action op act] at row
      cases a <;> cases row
    | none =>
      unfold rowOf at row
      rw [op, act] at row
      cases row
  | get | commit | discard | other =>
    unfold rowOf at row
    rw [op] at row
    cases row

/-- R157: a well-formed GET of an object there is passes the tests, whoever sends it. -/
theorem State.requestTests_get (op : mopOf body = .get) (form : formGood body = true)
    (object : objectOf (objOf body) = some o) (index : idxOf body ≤ o.lastIndex) : s.requestTests body = none := by
  have free : ¬((mopOf body = .set ∨ mopOf body = .commit ∨ mopOf body = .discard) ∧ s.mgmt.commit.state ≠ .none) := by
    rw [op]
    simp
  rw [State.requestTests_object form (.inl op) free (by rw [op]; decide) object, op, objectTests_get, if_pos index]

theorem State.taken_getValue (s : State) (rest : List (List Byte)) (o : Obj) (index : Nat) (active : Bool) :
    (s.taken rest).getValue o index active = s.getValue o index active := by
  cases o <;> rfl

theorem State.Takes.exec_get (h : s.Takes .get body rest) (form : formGood body = true)
    (object : objectOf (objOf body) = some o) (index : idxOf body ≤ o.lastIndex) :
    exec .get s =
      .next { s with mgmt :=
        { s.mgmt with
          queue := rest
          replies := [.manageReply (echoFields body) .ok .none 0 (s.getValue o (idxOf body) (copyActive body))] } } := by
  have passes : s.requestTests body = none :=
    State.requestTests_get (mopOf_of_rowOf_get h.row_eq) form object index
  refine (h.event_passes passes State.doGet).trans ?_
  rw [State.doGet, object]
  dsimp only
  rw [State.taken_getValue, State.taken_reply _ _ _ _ _ h.replies]

/-- R96: a debt between −4 and +8 is read back from its byte. -/
theorem toInt_debt {d : Int} (low : -4 ≤ d) (high : d ≤ 8) : (BitVec.ofInt 8 d).toInt = d := by
  rw [BitVec.toInt_ofInt]
  exact Int.bmod_eq_of_le (by omega) (by omega)

end

/-- Settles O40: the answer with the object's value, object by object, and the codes. -/
theorem getAnswersValue : Obligations.GetAnswersValue := by
  unfold Obligations.GetAnswersValue
  refine ⟨⟨Config.revision, fun s body rest o h form object index => ⟨_, h.exec_get form object index, ?_⟩⟩,
    rfl, rfl, rfl, rfl, rfl, rfl, rfl⟩
  intro m copy word flag
  refine ⟨?_, ?_, ?_, ?_, ?_, ?_, ?_, ?_, ?_, ?_, ?_, ?_⟩
  case refine_1 => rintro rfl; rfl
  case refine_2 => rintro i rfl; rfl
  case refine_3 => rintro r rfl; rfl
  case refine_4 => rintro rfl; rfl
  case refine_5 => rintro (rfl | rfl) <;> rfl
  case refine_6 => rintro rfl; rfl
  case refine_7 =>
    rintro rfl
    have free : (Option.isNone : Option WriteSlot → Bool) = fun w => decide (w = none) := by
      funext w
      cases w <;> rfl
    show s.partStateValue = _
    rw [State.partStateValue, State.freeWriteSlots, free]
    rfl
  case refine_8 =>
    rintro b rfl number
    have same : Fin.ofNat 16 (idxOf body) = b := by
      rw [number]
      exact Fin.ext (Nat.mod_eq_of_lt b.isLt)
    refine ⟨BitVec.ofInt 8 (s.ren.records.get b).debt, ?_, toInt_debt⟩
    show (s.ren.records.get (Fin.ofNat 16 (idxOf body))).bytes = _
    rw [same]
    rfl
  case refine_9 => rintro rfl; rfl
  case refine_10 =>
    rintro i rfl number
    have same : Fin.ofNat 11 (idxOf body) = i := by
      rw [number]
      exact Fin.ext (Nat.mod_eq_of_lt i.isLt)
    show u16 (s.mgmt.counters.get (Fin.ofNat 11 (idxOf body))) = _
    rw [same]
    rfl
  case refine_11 => rintro rfl; rfl
  case refine_12 => rintro rfl; rfl

/-! ### SET (R158) -/

section
variable {s : State} {body : List Byte} {rest : List (List Byte)} {o : Obj}

/-- R154: a SET that passes the tests names a staged object, and carries a value of it. -/
theorem State.staged_of_passes (row : rowOf body = .set) (passes : s.requestTests body = none)
    (object : objectOf (objOf body) = some o) : o.staged = true ∧ setValueGood o (valueOf body) = true := by
  obtain ⟨op, other⟩ := mopOf_of_rowOf_set row
  obtain ⟨form, right, free⟩ := State.of_passes passes
  rw [State.requestTests_object form right free (by rw [op]; decide) object, op] at passes
  have writes : o = .noticeSettings ∨ o.staged = true ∧ copyActive body = false := by
    by_contra none
    rw [objectTests_set_readOnly none] at passes
    cases passes
  rw [objectTests_set writes] at passes
  have good : idxOf body ≤ o.lastIndex ∧ setValueGood o (valueOf body) = true := by
    by_contra bad
    rw [if_neg bad] at passes
    cases passes
  have staged := writes.resolve_left (fun notice => other (notice ▸ object))
  exact ⟨staged.1, good.2⟩

theorem State.Takes.exec_set (h : s.Takes .set body rest) (passes : s.requestTests body = none)
    (object : objectOf (objOf body) = some o) :
    exec .set s =
      .next { s with mgmt :=
        { s.mgmt with
          queue := rest
          staged := s.mgmt.staged.setValue o (valueOf body)
          status := { s.mgmt.status with
            stagedDiffers := decide (s.mgmt.staged.setValue o (valueOf body) ≠ s.mgmt.active) }
          replies := [.manageReply (echoFields body) .ok .none 0 []] } } := by
  refine (h.event_passes passes State.doSet).trans ?_
  rw [State.doSet, object]
  simp [State.reply, State.taken, Mgmt.setStaged, h.replies]

end

/-- Settles O41: the value carried replaces the one object, and is spelled by it. -/
theorem setWritesStagedCopy : Obligations.SetWritesStagedCopy := by
  unfold Obligations.SetWritesStagedCopy
  intro s body rest o h passes object
  obtain ⟨staged, good⟩ := State.staged_of_passes h.row_eq passes object
  refine ⟨s.mgmt.staged.setValue o (valueOf body), h.exec_set passes object, ?_⟩
  cases o with
  | timing =>
    obtain ⟨t, spelled⟩ := Option.isSome_iff_exists.1 good
    have bytes := (bytes_of_parseTiming spelled).2
    have value : s.mgmt.staged.setValue .timing (valueOf body) = { s.mgmt.staged with timing := t } := by
      simp [Objects.setValue, spelled]
    rw [value]
    refine ⟨fun u hu => ?_, fun _ => bytes, fun _ no => (by cases no), fun _ no => (by cases no), fun no => (by cases no),
      fun no => absurd rfl no, fun _ _ => rfl, fun _ _ => rfl, fun _ => rfl⟩
    rw [State.getValue, Mgmt.copy, hu]
    exact bytes
  | window i =>
    obtain ⟨w, spelled⟩ := Option.isSome_iff_exists.1 good
    have bytes := (bytes_of_parseWindow spelled).2
    have value : s.mgmt.staged.setValue (.window i) (valueOf body) =
        { s.mgmt.staged with windows := s.mgmt.staged.windows.set i w } := by
      simp [Objects.setValue, spelled]
    rw [value]
    refine ⟨fun u hu => ?_, fun no => (by cases no), fun j same => ?_, fun _ no => (by cases no), fun no => (by cases no),
      fun _ => rfl, fun j other => ?_, fun _ _ => rfl, fun _ => rfl⟩
    · rw [State.getValue, Mgmt.copy, hu]
      simpa using bytes
    · cases same
      simpa using bytes
    · exact Table.get_set_ne _ _ fun same => other (same ▸ rfl)
  | requester r =>
    obtain ⟨q, spelled⟩ := Option.isSome_iff_exists.1 good
    have bytes := (bytes_of_parseRequester spelled).2
    have value : s.mgmt.staged.setValue (.requester r) (valueOf body) =
        { s.mgmt.staged with requesters := s.mgmt.staged.requesters.set r q } := by
      simp [Objects.setValue, spelled]
    rw [value]
    refine ⟨fun u hu => ?_, fun no => (by cases no), fun _ no => (by cases no), fun j same => ?_, fun no => (by cases no),
      fun _ => rfl, fun _ _ => rfl, fun j other => ?_, fun _ => rfl⟩
    · rw [State.getValue, Mgmt.copy, hu]
      simpa using bytes
    · cases same
      simpa using bytes
    · exact Table.get_set_ne _ _ fun same => other (same ▸ rfl)
  | linkSettings =>
    obtain ⟨l, spelled⟩ := Option.isSome_iff_exists.1 good
    have bytes := (bytes_of_parseLinkSettings spelled).2
    have value : s.mgmt.staged.setValue .linkSettings (valueOf body) = { s.mgmt.staged with link := l } := by
      simp [Objects.setValue, spelled]
    rw [value]
    refine ⟨fun u hu => ?_, fun no => (by cases no), fun _ no => (by cases no), fun _ no => (by cases no), fun _ => bytes,
      fun _ => rfl, fun _ _ => rfl, fun _ _ => rfl, fun no => absurd rfl no⟩
    rw [State.getValue, Mgmt.copy, hu]
    exact bytes
  | _ => cases staged

/-! ### the clears (R109, R185) -/

/-- Settles O48: the bank set bit by bit, and the counters. -/
theorem clearsTakeEffect : Obligations.ClearsTakeEffect := by
  unfold Obligations.ClearsTakeEffect
  constructor
  · intro s body rest hi lo h passes value
    refine ⟨s.ren.records.mapIdx fun b r => if (bankSet body).getLsbD b.val then { r with lapse := false } else r,
      fun b => ?_, (h.event_passes passes State.doLapseClear).trans ?_⟩
    · have set : bankSet body = BitVec.ofNat 16 (hi.toNat * 256 + lo.toNat) := by
        rw [bankSet, value, ← natOfBytes_two]
        rfl
      have bit : (BitVec.ofNat 16 (hi.toNat * 256 + lo.toNat)).getLsbD b.val =
          if b.val < 8 then lo.getLsbD b.val else hi.getLsbD (b.val - 8) := by
        rw [BitVec.getLsbD_ofNat, decide_eq_true (by omega : b.val < 16), Bool.true_and, Nat.mul_comm]
        exact Nat.testBit_two_pow_mul_add _ lo.isLt _
      rw [Table.get_mapIdx, set, bit]
    · simp [State.doLapseClear, State.reply, State.taken, h.replies]
  · intro s body rest h passes
    refine (h.event_passes passes State.doClear).trans ?_
    simp [State.doClear, State.reply, State.taken, h.replies]

end Sys2Proof.Machine
end

section
/-! PROOFS. The retain actions (O49), the validation of a commit (O43), and the outcomes of a COMMIT (O44). -/

namespace Sys2Proof.Machine

/-! ### ENTER_RETAIN and LEAVE_RETAIN (R174, R178, R179) -/

section
variable {s : State} {body : List Byte} {rest : List (List Byte)}

/-- R20: the halt request that goes was the last one, in HALTING or HALTED. -/
def Port.lastHalt (p : Port) (goes other : Bool) : Bool :=
  !other && goes && (decide (p.mode = .halting) || decide (p.mode = .halted))

theorem Port.lastHalt_eq_true {p : Port} {goes other : Bool} :
    p.lastHalt goes other = true ↔ other = false ∧ goes = true ∧ (p.mode = .halting ∨ p.mode = .halted) := by
  simp [Port.lastHalt, and_assoc]

/-- R20, of a part that is in neither STARTING nor RESUMING, whose state RUN leaves. -/
theorem State.withdrawDrainHalt_mode
    (running : s.port.mode = .halting ∨ s.port.mode = .halted →
      s.mgmt.part.state ≠ .starting ∧ s.mgmt.part.state ≠ .resuming) :
    s.withdrawDrainHalt =
      { s with port :=
        { s.port with
          drainHalt := false
          mode := if s.port.lastHalt s.port.drainHalt s.port.commitHalt then .run else s.port.mode } } := by
  unfold State.withdrawDrainHalt State.afterWithdrawal
  cases drain : s.port.drainHalt with
  | false =>
    rw [if_neg (by simp), if_neg (by simp [Port.lastHalt_eq_true]), ← drain]
  | true =>
    rw [if_pos rfl]
    by_cases last : s.port.lastHalt true s.port.commitHalt = true
    · obtain ⟨commit, _, mode⟩ := Port.lastHalt_eq_true.1 last
      obtain ⟨notStarting, notResuming⟩ := running mode
      rw [if_pos ⟨mode, commit, rfl⟩, if_pos last]
      simp [State.enterRun, State.setMode, State.setPart, notStarting, notResuming]
    · have stays : ¬((s.port.mode = .halting ∨ s.port.mode = .halted) ∧ s.port.commitHalt = false ∧ False = False) :=
        fun ⟨mode, commit, _⟩ => last (Port.lastHalt_eq_true.2 ⟨commit, rfl, mode⟩)
      rw [if_neg (by simpa using stays), if_neg last]

theorem PortMode.afterDrain_eq (m : PortMode) :
    m.afterDrain = if m = .init then .starting else if m = .waking then .resuming else .serving := by
  cases m <;> rfl

/-- R178: the ABANDONED reply of the ENTER-RETAIN that the drain still owes. -/
def Part.abandoned (p : Part) : List OutFrame :=
  match p.retainOwed with
  | some e => [.manageReply e .abandoned .none 0 []]
  | none => []

/-- R178: the part and the hold request as the drain ends. -/
def State.drainLeft (s : State) : State :=
  { s with
    port := { s.port with holdReq := false }
    mgmt := { s.mgmt with
      part := { s.mgmt.part with state := s.port.mode.afterDrain, stage := none, retainOwed := none } } }

/-- R178: the end of a drain, before the event's rest. -/
theorem State.endDrain_eq (s : State) (e : Echo) :
    s.endDrain e =
      { s with
        port := { s.port with
          drainHalt := false
          holdReq := false
          mode := if s.port.lastHalt s.port.drainHalt s.port.commitHalt then .run else s.port.mode }
        mgmt := { s.mgmt with
          part := { s.mgmt.part with state := s.port.mode.afterDrain, stage := none, retainOwed := none }
          replies := s.mgmt.replies ++ s.mgmt.part.abandoned ++ [.manageReply e .ok .none 0 []] } } := by
  have ends : s.endDrain e = (s.drainLeft.withdrawDrainHalt.abandonReply s.mgmt.part.retainOwed).reply e .ok := rfl
  have left : s.drainLeft.port.mode = .halting ∨ s.drainLeft.port.mode = .halted →
      s.drainLeft.mgmt.part.state ≠ .starting ∧ s.drainLeft.mgmt.part.state ≠ .resuming := by
    rintro (mode | mode) <;> simp only [State.drainLeft] at mode ⊢ <;> simp [mode, PortMode.afterDrain]
  have same : s.drainLeft.port.lastHalt s.drainLeft.port.drainHalt s.drainLeft.port.commitHalt =
      s.port.lastHalt s.port.drainHalt s.port.commitHalt := rfl
  rw [ends, State.withdrawDrainHalt_mode left, same]
  cases owing : s.mgmt.part.retainOwed <;>
    simp [State.drainLeft, State.abandonReply, State.reply, Part.abandoned, owing]

/-- R179: the end of RETAINED, before the event's rest. -/
theorem State.withdrawDrainHalt_wake (held : s.port.mode = .held) :
    s.withdrawDrainHalt.wake =
      { s with
        port := { s.port with drainHalt := false, mode := .waking, tExit := some (s.now + s.timing.tExit) }
        ren := { s.ren with records := s.ren.records.mapIdx fun _ r => { r with debt := 0 } } } := by
  rw [State.withdrawDrainHalt_mode (by simp [held])]
  simp [State.wake, State.zeroDebts, Port.lastHalt, held, State.timing]

end

/-- Settles O49, by the part state. -/
theorem retainOutcomes : Obligations.RetainOutcomes := by
  unfold Obligations.RetainOutcomes
  constructor
  · intro s body rest h passes
    have runs := h.event_passes passes State.doEnterRetain
    refine ⟨fun serving => runs.trans ?_, ?_, ?_⟩
    · simp [State.doEnterRetain, serving, State.setPart, State.taken, h.replies]
    · rintro (draining | retained) <;> refine runs.trans ?_
      · simp [State.doEnterRetain, draining, State.reply, State.taken, h.replies]
      · simp [State.doEnterRetain, retained, State.reply, State.taken, h.replies]
    · rintro (starting | resuming) <;> refine runs.trans ?_
      · simp [State.doEnterRetain, starting, State.reply, State.taken, h.replies]
      · simp [State.doEnterRetain, resuming, State.reply, State.taken, h.replies]
  · intro s body rest h passes
    have runs := h.event_passes passes State.doLeaveRetain
    refine ⟨fun retained held => ?_, fun draining => runs.trans ?_, ?_, fun starting => runs.trans ?_⟩
    · refine ⟨s.ren.records.mapIdx fun _ r => { r with debt := 0 }, fun b => Table.get_mapIdx _ _ _, runs.trans ?_⟩
      have leaves : (s.taken rest).mgmt.part.state = .retained := retained
      rw [State.doLeaveRetain, leaves]
      dsimp only
      rw [State.withdrawDrainHalt_wake (s := s.taken rest) held]
      simp [State.setPart, State.reply, State.taken, h.replies, State.timing]
    · have leaves : (s.taken rest).mgmt.part.state = .draining := draining
      rw [State.doLeaveRetain, leaves]
      dsimp only
      rw [State.endDrain_eq, PortMode.afterDrain_eq]
      refine congrArg (fun u : State => Host.Outcome.next u.settle) ?_
      simp only [State.taken, h.replies, List.nil_append]
      rfl
    · rintro (serving | resuming) <;> refine runs.trans ?_
      · simp [State.doLeaveRetain, serving, State.reply, State.taken, h.replies]
      · simp [State.doLeaveRetain, resuming, State.reply, State.taken, h.replies]
    · simp [State.doLeaveRetain, starting, State.reply, State.taken, h.replies]

/-! ### validation (R162) -/

section
variable {t : Table 32 Window} {o : Objects}

/-- The first number of a table at which a test holds. -/
theorem find_finRange_of_first {n : Nat} {p : Fin n → Bool} {i : Fin n} (found : p i = true) (first : ∀ j < i, ¬p j = true) :
    ((List.finRange n).find? p).map Fin.val = some i.val := by
  have finds : (List.ofFn id).find? p = some i :=
    (List.find?_ofFn_eq_some_of_injective Function.injective_id).2 ⟨found, first⟩
  rw [← List.ofFn_id, finds, Option.map_some]

theorem find_finRange_eq_none {n : Nat} {p : Fin n → Bool} (fails : ∀ i, ¬p i = true) :
    ((List.finRange n).find? p).map Fin.val = none := by
  rw [List.find?_eq_none.2 fun i _ => fails i, Option.map_none]

/-- R17: the ranges of the fields of section 1.5, whose list ends before the map mode. -/
theorem Timing.bad_iff_of_listed {t : Timing} {listed : List (Nat × Nat × Nat)}
    (fields : t.fields = listed ++ [(t.mapMode.code.toNat, 0, 1)]) (i : Nat) :
    t.Bad i ↔ ∃ v lo hi, listed[i]? = some (v, lo, hi) ∧ (v < lo ∨ hi < v ∨ i = 12 ∧ v = 3) := by
  unfold Timing.Bad
  rw [fields]
  rcases Nat.lt_or_ge i listed.length with early | late
  · rw [List.getElem?_append_left early]
  · rw [List.getElem?_append_right late, List.getElem?_eq_none late]
    refine ⟨?_, by simp⟩
    rintro ⟨v, lo, hi, field, bad⟩
    obtain ⟨last, rfl, rfl, rfl⟩ : i - listed.length = 0 ∧ t.mapMode.code.toNat = v ∧ 0 = lo ∧ 1 = hi := by
      simpa [List.getElem?_singleton] using field
    have mode : t.mapMode.code.toNat ≤ 1 := by cases t.mapMode <;> decide
    have length : listed.length = 15 := by
      have := congrArg List.length fields
      simp [Timing.fields] at this
      omega
    omega

/-- R41 test 3: the windows share a logical byte. -/
theorem Window.overlaps_iff {v w : Window} : v.overlaps w = true ↔ v.valid = true ∧ w.valid = true ∧
    ∃ n, v.logicalBase ≤ n ∧ n < v.logicalBase + 2 ^ v.sizeExp ∧ w.logicalBase ≤ n ∧
      n < w.logicalBase + 2 ^ w.sizeExp := by
  have vSize := Nat.two_pow_pos v.sizeExp
  have wSize := Nat.two_pow_pos w.sizeExp
  simp only [Window.overlaps, Bool.and_eq_true, decide_eq_true_eq, and_assoc]
  refine and_congr_right fun _ => and_congr_right fun _ => ⟨fun ⟨left, right⟩ => ?_, fun ⟨n, a, b, c, d⟩ => ?_⟩
  · exact ⟨max v.logicalBase w.logicalBase, by omega⟩
  · omega

theorem Table.mem_rows_iff {n : Nat} {α : Type} {t : Table n α} {a : α} : a ∈ t.rows ↔ ∃ i, t.get i = a := by
  constructor
  · intro mem
    obtain ⟨i, inside, rfl⟩ := List.mem_iff_getElem.1 mem
    exact ⟨⟨i, t.len ▸ inside⟩, rfl⟩
  · rintro ⟨i, rfl⟩
    exact List.getElem_mem _

theorem hasManager_iff {t : Table 16 Requester} :
    hasManager t = true ↔ ∃ r, (t.get r).enabled = true ∧ (t.get r).manager = true := by
  simp only [hasManager, List.any_eq_true, Bool.and_eq_true]
  constructor
  · rintro ⟨q, mem, held⟩
    obtain ⟨r, rfl⟩ := Table.mem_rows_iff.1 mem
    exact ⟨r, held⟩
  · rintro ⟨r, held⟩
    exact ⟨t.get r, Table.mem_rows_iff.2 ⟨r, rfl⟩, held⟩

/-- R41, R49, R162: the tests of the windows and of the requester table, in order. -/
def validateTables (o : Objects) : Option (CommitCheck × Nat) :=
  match badAlign o.windows, badFit o.windows, badOverlap o.windows with
  | some i, _, _ => some (.windowAlign, i)
  | none, some i, _ => some (.windowFit, i)
  | none, none, some i => some (.windowOverlap, i)
  | none, none, none => if hasManager o.requesters then none else some (.noManager, 0)

/-- R162: the windows and the requester table come once the timing profile is good. -/
theorem validate_tables (fields : o.timing.badField = none) (dwell : o.timing.tOa ≤ o.timing.tDwell)
    (quad : o.timing.tOo ≤ o.timing.tQuad) : validate o = validateTables o := by
  unfold validate
  rw [fields]
  dsimp only
  rw [if_neg (by omega), if_neg (by omega)]
  rfl

end

/-- Settles O43: each test of the table, where those before it hold. -/
theorem validationOrder : Obligations.ValidationOrder := by
  unfold Obligations.ValidationOrder
  intro o w t fields bad inRange dwell quad aligned fits clash manager
  have bad_iff (i : Nat) : t.Bad i ↔ bad i := Timing.bad_iff_of_listed rfl i
  have good : t.badField = none ↔ inRange := by
    rw [Timing.badField_eq_none]
    exact forall_congr' fun i => not_congr (bad_iff i)
  have misaligned (i : Fin 32) : ¬aligned i ↔
      ((o.windows.get i).valid && (o.windows.get i).logicalBase % 2 ^ (o.windows.get i).sizeExp ≠ 0) = true := by
    simp [aligned, w, Nat.dvd_iff_mod_eq_zero]
  have outside (i : Fin 32) : ¬fits i ↔
      ((o.windows.get i).valid && 1024 < (o.windows.get i).physicalBase + 2 ^ (o.windows.get i).sizeExp) = true := by
    simp [fits, w]
  have clashes (j : Fin 32) : (∃ i, clash i j) ↔
      ((List.finRange 32).any fun i => i < j && (o.windows.get i).overlaps (o.windows.get j)) = true := by
    simp [clash, w, Window.overlaps_iff]
  refine ⟨good, fun i found first => ?_, fun range short => ?_, fun range long short => ?_, fun range long wide => ?_⟩
  · have badField : t.badField = some i :=
      Timing.badField_eq_some ((bad_iff i).2 found) fun j below => mt (bad_iff j).1 (first j below)
    refine ⟨badField, ?_⟩
    rw [validate, badField]
  · rw [validate, good.2 range]
    exact if_pos (Nat.lt_of_not_le short)
  · rw [validate, good.2 range]
    dsimp only
    rw [if_neg (Nat.not_lt.2 long)]
    exact if_pos (Nat.lt_of_not_le short)
  · rw [validate_tables (good.2 range) long wide, validateTables]
    refine ⟨fun i found first => ?_, fun allAligned => ⟨fun i found first => ?_, fun allFit => ⟨fun i j found first => ?_,
      fun apart => ⟨fun unmanaged => ?_, fun managed => ?_⟩⟩⟩⟩
    · have align : badAlign o.windows = some i.val :=
        find_finRange_of_first ((misaligned i).1 found) fun j below no => (misaligned j).2 no (first j below)
      rw [align]
    all_goals
      have align : badAlign o.windows = none := find_finRange_eq_none fun i no => (misaligned i).2 no (allAligned i)
      rw [align]
    · have fit : badFit o.windows = some i.val :=
        find_finRange_of_first ((outside i).1 found) fun j below no => (outside j).2 no (first j below)
      rw [fit]
    all_goals
      have fit : badFit o.windows = none := find_finRange_eq_none fun i no => (outside i).2 no (allFit i)
      rw [fit]
    · have overlap : badOverlap o.windows = some j.val :=
        find_finRange_of_first ((clashes j).1 ⟨i, found⟩) fun n below no =>
          let ⟨m, clash⟩ := (clashes n).2 no
          first m n below clash
      rw [overlap]
    all_goals
      have overlap : badOverlap o.windows = none := find_finRange_eq_none fun j no =>
        let ⟨i, clash⟩ := (clashes j).2 no
        apart i j clash
      rw [overlap]
    · exact if_neg (mt hasManager_iff.1 unmanaged)
    · exact if_pos (hasManager_iff.2 managed)

/-! ### COMMIT (R162, R163) -/

section
variable {s : State} {e : Echo}

theorem State.doCommit_starting {body : List Byte} (starting : s.mgmt.part.state = .starting) :
    s.doCommit body e = s.reply e .notReady := by
  rw [State.doCommit, if_pos starting]

theorem State.doCommit_invalid {body : List Byte} {ck : CommitCheck} {i : Nat} (started : s.mgmt.part.state ≠ .starting)
    (fails : validate s.mgmt.staged = some (ck, i)) : s.doCommit body e = s.rejectCommit e ck i := by
  rw [State.doCommit, if_neg started, fails]

theorem State.doCommit_valid {body : List Byte} (started : s.mgmt.part.state ≠ .starting)
    (holds : validate s.mgmt.staged = none) : s.doCommit body e = (s.acceptCommit e).settle := by
  rw [State.doCommit, if_neg started, holds]

theorem commitClass_immediate {active staged : Timing} : commitClass active staged = .immediate ↔ staged = active := by
  unfold commitClass
  split
  next mode =>
    refine ⟨fun no => (by cases no), fun same => absurd (congrArg Timing.mapMode same) mode⟩
  next =>
    split
    next differ => exact ⟨fun no => (by cases no), fun same => absurd same differ⟩
    next same => exact ⟨fun _ => not_not.1 same, fun _ => rfl⟩

theorem commitClass_timing {active staged : Timing} (differ : staged ≠ active) (mode : staged.mapMode = active.mapMode) :
    commitClass active staged = .timing := by
  rw [commitClass, if_neg (not_not.2 mode), if_pos differ]

theorem commitClass_mapChange {active staged : Timing} (mode : staged.mapMode ≠ active.mapMode) :
    commitClass active staged = .mapChange := if_pos mode

/-- R163: an accepted commit that takes its commit point at once. -/
theorem State.acceptCommit_atOnce (h : s.mgmt.part.state = .retained ∨ s.mgmt.staged.timing = s.mgmt.active.timing) :
    s.acceptCommit e = (s.setCommit { state := .none, mapChange := false, replyOwed := some (.owed e) }).commitPoint := by
  unfold State.acceptCommit
  exact if_pos (h.symm.imp_left commitClass_immediate.2)

theorem State.acceptCommit_timing (unretained : s.mgmt.part.state ≠ .retained)
    (differ : s.mgmt.staged.timing ≠ s.mgmt.active.timing)
    (mode : s.mgmt.staged.timing.mapMode = s.mgmt.active.timing.mapMode) :
    s.acceptCommit e =
      (s.setCommit { state := .haltWait, mapChange := false, replyOwed := some (.owed e) }).requestCommitHalt := by
  simp [State.acceptCommit, commitClass_timing differ mode, unretained]

theorem State.acceptCommit_mapChange (unretained : s.mgmt.part.state ≠ .retained)
    (mode : s.mgmt.staged.timing.mapMode ≠ s.mgmt.active.timing.mapMode) :
    s.acceptCommit e = s.setCommit { state := .listWait, mapChange := true, replyOwed := some (.owed e) } := by
  simp [State.acceptCommit, commitClass_mapChange mode, unretained]

end

/-- Settles O44, by the class of the commit. -/
theorem commitOutcomes : Obligations.CommitOutcomes := by
  unfold Obligations.CommitOutcomes
  intro s body rest h passes e m with_
  have runs := h.event_passes passes State.doCommit
  refine ⟨fun starting => runs.trans ?_, fun started => ⟨fun ck i fails => runs.trans ?_, fun holds => ?_⟩⟩
  · rw [State.doCommit_starting (s := s.taken rest) starting]
    simp [State.reply, State.taken, h.replies, with_, m, e]
  · rw [State.doCommit_invalid (s := s.taken rest) started fails]
    simp [State.rejectCommit, State.replyInvalid, State.taken, h.replies, with_, m, e]
  · rw [State.doCommit_valid (s := s.taken rest) started holds] at runs
    refine ⟨fun atOnce => runs.trans ?_, fun unretained differ mode => runs.trans ?_, fun unretained mode => runs.trans ?_⟩
    all_goals refine congrArg (fun u : State => Host.Outcome.next u.settle) ?_
    · exact State.acceptCommit_atOnce (s := s.taken rest) atOnce
    · refine (State.acceptCommit_timing (s := s.taken rest) unretained differ mode).trans ?_
      cases running : s.port.mode <;>
        simp [State.setCommit, State.requestCommitHalt, State.taken, PortMode.onHalt, running, with_, m, e]
    · exact State.acceptCommit_mapChange (s := s.taken rest) unretained mode

end Sys2Proof.Machine
end

section
/-! PROOFS. The head reads and the reserve (O23), the candidate and the DATA frame (O24), and CANCEL (O21). -/

namespace Sys2Proof.Machine

/-! ### the reserve of response slots (R85) -/

section
variable {s : State} {l older younger : List Entry} {e : Entry}

theorem olderThan_split (sorted : (older ++ e :: younger).Pairwise fun a b => a.id < b.id) :
    olderThan (older ++ e :: younger) e.id = older := by
  have below : ∀ o ∈ older, decide (o.id ≠ e.id) = true := fun o mem => by
    have := (List.pairwise_append.1 sorted).2.2 o mem e (by simp)
    exact decide_eq_true (by omega)
  rw [olderThan, List.takeWhile_append_of_pos below]
  simp

theorem mem_olderThan (sorted : l.Pairwise fun a b => a.id < b.id) (mem : e ∈ l) {o : Entry} :
    o ∈ olderThan l e.id ↔ o ∈ l ∧ o.id < e.id := by
  obtain ⟨older, younger, rfl⟩ := List.append_of_mem mem
  rw [olderThan_split sorted]
  obtain ⟨-, tail, across⟩ := List.pairwise_append.1 sorted
  constructor
  · intro h
    exact ⟨by simp [h], across o h e (by simp)⟩
  · rintro ⟨inList, below⟩
    rcases List.mem_append.1 inList with h | h
    · exact h
    · rcases List.mem_cons.1 h with rfl | h
      · omega
      · have := (List.pairwise_cons.1 tail).1 o h
        omega

theorem Entry.needsSlot_iff : e.needsSlot = true ↔ e.kind = .read ∧ e.tagHeld = true ∧ e.respSlot = none := by
  simp [Entry.needsSlot, and_assoc]

theorem State.countsOrdered_iff {r : ReqNo} : s.countsOrdered r = true ↔ ∃ p ∈ s.resp.orders.get r, p.mode = .ordered := by
  simp [State.countsOrdered]

theorem State.headRead_split (ok : s.sched.Ok) (split : s.sched.list = older ++ e :: younger) :
    s.headRead e = true ↔ e.kind = .read ∧ e.tagHeld = true ∧ e.respSlot = none ∧
      (∃ p ∈ s.resp.orders.get e.requester, p.mode = .ordered) ∧
      ∀ o ∈ older, ¬(o.requester = e.requester ∧ o.kind = .read ∧ o.tagHeld = true ∧ o.respSlot = none) := by
  have sorted := (Sched.ok_iff.1 ok).sorted
  rw [State.headRead, split, olderThan_split (split ▸ sorted), Bool.and_eq_true, Bool.and_eq_true, Entry.needsSlot_iff,
    State.countsOrdered_iff, List.all_eq_true, and_assoc, and_assoc, and_assoc]
  simp only [← Entry.needsSlot_iff]
  simp [imp_iff_not_or]

/-- R85: no older read of a head read's requester waits for a slot. -/
theorem State.headRead_oldest (ok : s.sched.Ok) {a b : Entry} (memA : a ∈ s.sched.list) (memB : b ∈ s.sched.list)
    (head : s.headRead b = true) (needs : a.needsSlot = true) (same : a.requester = b.requester) : b.id ≤ a.id := by
  by_contra younger
  have older := (mem_olderThan (Sched.ok_iff.1 ok).sorted memB).2 ⟨memA, Nat.lt_of_not_le younger⟩
  simp only [State.headRead, Bool.and_eq_true, List.all_eq_true] at head
  have := head.2 a older
  simp [needs, same] at this

theorem State.headRead_unique (ok : s.sched.Ok) {a b : Entry} (memA : a ∈ s.sched.list) (memB : b ∈ s.sched.list)
    (headA : s.headRead a = true) (headB : s.headRead b = true) (same : a.requester = b.requester) : a = b := by
  have needs {x : Entry} (head : s.headRead x = true) : x.needsSlot = true := by
    simp only [State.headRead, Bool.and_eq_true] at head
    exact head.1.1
  have left := s.headRead_oldest ok memA memB headB (needs headA) same
  have right := s.headRead_oldest ok memB memA headA (needs headB) same.symm
  exact eq_of_id_eq (Sched.ok_iff.1 ok).sorted memA memB (by omega)

/-- R85: at most one head read of each requester makes at most 16. -/
theorem State.headReads_le (ok : s.sched.Ok) : s.headReads ≤ 16 := by
  have apart : ((s.sched.list.filter s.headRead).map Entry.requester).Nodup := by
    refine List.Nodup.map_on (fun a memA b memB same => ?_) ?_
    · obtain ⟨inA, headA⟩ := List.mem_filter.1 memA
      obtain ⟨inB, headB⟩ := List.mem_filter.1 memB
      exact s.headRead_unique ok inA inB headA headB same
    · exact ((Sched.ok_iff.1 ok).sorted.imp fun {a b} below same => by simp [same] at below).filter _
  have := apart.length_le_card
  rw [List.length_map, Fintype.card_fin] at this
  rwa [State.headReads, List.countP_eq_length_filter]

end

/-- Settles O23: the older reads of the requester, counted once each. -/
theorem headReserve : Obligations.HeadReserve := by
  unfold Obligations.HeadReserve
  intro s ok
  refine ⟨fun a memA b memB headA headB same => s.headRead_unique ok memA memB headA headB same,
    fun older e younger split => State.headRead_split ok split, List.countP_eq_length_filter, List.countP_eq_length_filter,
    State.headReads_le ok, fun e => ?_⟩
  simp [State.mayReserve, Nat.succ_le_iff]

/-! ### the candidate of a requester (R121) -/

section
variable {p q : Place} {l ps : List Place}

/-- R121: a place that may be sent after those older than it. -/
def Place.Passes (older : List Place) (p : Place) : Prop := p.state ≠ .owed ∧ (p.mode = .unordered ∨ older = [])

theorem Place.releasable_iff {oldest : Bool} :
    p.releasable oldest = true ↔ p.state ≠ .owed ∧ (p.mode = .unordered ∨ oldest = true) := by
  simp [Place.releasable, or_comm]

theorem Place.passes_nil : p.Passes [] ↔ p.releasable true = true := by
  simp [Place.Passes, Place.releasable_iff]

theorem Place.passes_cons : p.Passes (q :: ps) ↔ p.releasable false = true := by
  simp [Place.Passes, Place.releasable_iff]

/-- R121: of a list whose oldest place may not be sent, the others must be UNORDERED. -/
theorem candidateIn_cons (h : ¬q.Passes []) : candidateIn (q :: ps) = ps.find? fun p => p.releasable false := by
  rw [candidateIn, if_neg (mt Place.passes_nil.2 h)]

theorem candidateIn_eq_none : candidateIn l = none ↔
    ∀ older x younger, l = older ++ x :: younger → ¬x.Passes older := by
  cases l with
  | nil => simp [candidateIn]
  | cons q ps =>
    by_cases first : q.Passes []
    · refine iff_of_false (by rw [candidateIn, if_pos (Place.passes_nil.1 first)]; simp) fun all => all [] q ps rfl first
    · rw [candidateIn_cons first, List.find?_eq_none]
      constructor
      · rintro all (_ | ⟨q', older⟩) x younger split passes
        · cases split
          exact first passes
        · cases split
          exact all x (by simp) (Place.passes_cons.1 passes)
      · intro all x mem passes
        obtain ⟨older, younger, rfl⟩ := List.append_of_mem mem
        exact all (q :: older) x younger rfl (Place.passes_cons.2 passes)

theorem candidateIn_eq_some : candidateIn l = some p ↔ ∃ older younger, l = older ++ p :: younger ∧ p.Passes older ∧
    ∀ before x after, older = before ++ x :: after → ¬x.Passes before := by
  cases l with
  | nil => simp [candidateIn]
  | cons q ps =>
    by_cases first : q.Passes []
    · rw [candidateIn, if_pos (Place.passes_nil.1 first)]
      constructor
      · intro h
        cases h
        exact ⟨[], ps, rfl, first, by simp⟩
      · rintro ⟨_ | ⟨q', older⟩, younger, split, -, none⟩
        · cases split
          rfl
        · cases split
          exact absurd first (none [] q older rfl)
    · rw [candidateIn_cons first, List.find?_eq_some_iff_append]
      constructor
      · rintro ⟨passes, older, younger, rfl, none⟩
        refine ⟨q :: older, younger, rfl, Place.passes_cons.2 passes, ?_⟩
        rintro (_ | ⟨q', before⟩) x after split may
        · cases split
          exact first may
        · cases split
          simpa [Place.passes_cons.1 may] using none x (by simp)
      · rintro ⟨_ | ⟨q', older⟩, younger, split, passes, none⟩
        · cases split
          exact absurd passes first
        · cases split
          refine ⟨Place.passes_cons.1 passes, older, younger, rfl, fun x mem => ?_⟩
          obtain ⟨before, after, rfl⟩ := List.append_of_mem mem
          simpa using mt Place.passes_cons.2 (none (q :: before) x after rfl)

end

/-! ### the DATA frame (R115, R116) -/

section
variable {o : SlotOwner} {results : List CheckResult} {lapse : Bool}

theorem frameOrder_eq (o : SlotOwner) : frameOrder o.order o.lead o.size = (List.range o.size.chunks).map o.blockPos := by
  cases order : o.order with
  | linear =>
    have same : o.blockPos = id := funext fun n => by simp [SlotOwner.blockPos, order]
    simp [frameOrder, same]
  | leadFirst => simp [frameOrder, SlotOwner.blockPos, order]

theorem SlotOwner.blockPos_lt {n : Nat} (h : n < o.size.chunks) : o.blockPos n < o.size.chunks := by
  cases order : o.order with
  | linear => simpa [SlotOwner.blockPos, order] using h
  | leadFirst => simpa [SlotOwner.blockPos, order] using Nat.mod_lt _ (by omega)

/-- R115: the place of the chunk sent at position `n`, with no remainder. -/
theorem SlotOwner.blockPos_leadFirst {n : Nat} (h : n < o.size.chunks) (lead : o.lead < o.size.chunks)
    (order : o.order = .leadFirst) :
    o.blockPos n = if o.lead + n < o.size.chunks then o.lead + n else o.lead + n - o.size.chunks := by
  simp only [SlotOwner.blockPos, order]
  split
  next inside => exact Nat.mod_eq_of_lt inside
  next past => rw [Nat.mod_eq_sub_mod (by omega), Nat.mod_eq_of_lt (by omega)]

theorem SlotOwner.blockPos_inj {m n : Nat} (hm : m < o.size.chunks) (hn : n < o.size.chunks) (lead : o.lead < o.size.chunks)
    (same : o.blockPos m = o.blockPos n) : m = n := by
  cases order : o.order with
  | linear => simpa [SlotOwner.blockPos, order] using same
  | leadFirst =>
    rw [SlotOwner.blockPos_leadFirst hm lead order, SlotOwner.blockPos_leadFirst hn lead order] at same
    split at same <;> split at same <;> omega

theorem frameOrder_perm (lead : o.lead < o.size.chunks) :
    (frameOrder o.order o.lead o.size).Perm (List.range o.size.chunks) := by
  rw [frameOrder_eq]
  have apart : ((List.range o.size.chunks).map o.blockPos).Nodup :=
    List.Nodup.map_on (fun m hm n hn => SlotOwner.blockPos_inj (List.mem_range.1 hm) (List.mem_range.1 hn) lead)
      List.nodup_range
  have inside : (List.range o.size.chunks).map o.blockPos ⊆ List.range o.size.chunks := by
    intro k mem
    obtain ⟨n, hn, rfl⟩ := List.mem_map.1 mem
    exact List.mem_range.2 (SlotOwner.blockPos_lt (List.mem_range.1 hn))
  exact (List.subperm_of_subset apart inside).perm_of_length_le (by simp)

theorem CheckResult.bad_iff {r : CheckResult} : r.bad = true ↔ r = .uncorrectable ∨ r = .poisoned := by
  cases r <;> simp [CheckResult.bad]

theorem any_bad_iff : results.any CheckResult.bad = true ↔ ∃ r ∈ results, r = .uncorrectable ∨ r = .poisoned := by
  simp only [List.any_eq_true, CheckResult.bad_iff]

theorem mem_badList (length : results.length = o.size.chunks) {n : Nat} : n ∈ badList o results ↔
    ∃ k r, (frameOrder o.order o.lead o.size)[n]? = some k ∧ results[k]? = some r ∧
      (r = .uncorrectable ∨ r = .poisoned) := by
  rw [badList, List.mem_filter, List.mem_range, frameOrder_eq, CheckResult.bad_iff]
  by_cases inside : n < o.size.chunks
  · have sent : o.blockPos n < results.length := length ▸ SlotOwner.blockPos_lt inside
    simp [inside, sent]
  · simp [inside]

theorem badList_eq_nil (length : results.length = o.size.chunks) (lead : o.lead < o.size.chunks) :
    badList o results = [] ↔ ¬∃ r ∈ results, r = .uncorrectable ∨ r = .poisoned := by
  rw [List.eq_nil_iff_forall_not_mem, ← not_exists]
  refine not_congr ⟨?_, ?_⟩
  · rintro ⟨n, mem⟩
    obtain ⟨k, r, -, chunk, bad⟩ := (mem_badList length).1 mem
    exact ⟨r, List.mem_of_getElem? chunk, bad⟩
  · rintro ⟨r, mem, bad⟩
    obtain ⟨k, inside, rfl⟩ := List.mem_iff_getElem.1 mem
    have sent : k ∈ frameOrder o.order o.lead o.size :=
      (frameOrder_perm lead).mem_iff.2 (List.mem_range.2 (length ▸ inside))
    obtain ⟨n, position⟩ := List.mem_iff_getElem?.1 sent
    exact ⟨n, (mem_badList length).2 ⟨k, _, position, List.getElem?_eq_getElem inside, bad⟩⟩

end

/-- Settles O24: the first place that passes, and the chunks of a block in their order of return. -/
theorem candidateAndDataFrame : Obligations.CandidateAndDataFrame := by
  unfold Obligations.CandidateAndDataFrame
  refine ⟨fun _ _ => rfl, fun l p => ⟨candidateIn_eq_some, candidateIn_eq_none⟩, ?_⟩
  intro o results lapse length lead order bad status
  have poisoned : status = .poisoned ↔ ∃ r ∈ results, bad r := by
    simp only [status, dataStatus, ← any_bad_iff, bad]
    cases results.any CheckResult.bad <;> cases lapse <;> simp
  have unmarked : (∀ r ∈ results, ¬bad r) ↔ results.any CheckResult.bad = false := by
    rw [← Bool.not_eq_true, any_bad_iff]
    simp [bad]
  refine ⟨frameOrder_perm lead, fun n inside => ?_, poisoned, ?_, ?_, fun n => mem_badList length, ?_, ?_⟩
  · have position : order[n]? = some (o.blockPos n) := by
      simp only [order]
      rw [frameOrder_eq]
      simp [inside]
    rw [position]
    cases kind : o.order with
    | linear => simp [SlotOwner.blockPos, kind]
    | leadFirst => rw [SlotOwner.blockPos_leadFirst inside lead kind]
  · rw [unmarked]
    simp only [status, dataStatus]
    cases results.any CheckResult.bad <;> cases lapse <;> simp
  · rw [unmarked]
    simp only [status, dataStatus]
    cases results.any CheckResult.bad <;> cases lapse <;> simp
  · exact (List.pairwise_lt_range).filter _
  · rw [badList_eq_nil length lead, ne_eq, poisoned]

/-! ### CANCEL (R87, R88) -/

section
variable {s : State} {f : RxFrame} {r : ReqNo} {tag : Byte} {e : Entry}

/-- R87: a CANCEL that is taken out of its receive slot. -/
theorem exec_cancel (running : s.rst = none) (free : s.sched.cancelHold = none)
    (waits : s.link.rx.find? RxFrame.isCancel = some f) :
    exec .cancel s = .next ((s.dropRx RxFrame.isCancel).takeCancel f.body) := by
  have runs : exec .cancel s = execCancel s := rfl
  rw [runs, execCancel, State.event_running running, waits]
  dsimp only
  rw [if_pos free]

theorem State.cancelReply_whole {body : List Byte} {r : Byte} {res : CancelResult} (whole : 2 ≤ body.length)
    (requester : body[0]? = some r) (named : body[1]? = some tag) :
    s.cancelReply body res = { s with sched := { s.sched with cancelHold := some (.cancelReply r tag res) } } := by
  simp [State.cancelReply, State.echoed, State.echoByte, List.getD_eq_getElem?_getD, requester, named, Nat.not_lt.2 whole]

theorem State.takeCancel_length {body : List Byte} (wrong : body.length ≠ 2) :
    s.takeCancel body = s.cancelReply body .unknown := by
  match body with
  | [] | [_] | _ :: _ :: _ :: _ => rfl
  | [_, _] => exact absurd rfl wrong

theorem State.takeCancel_noRequester {q : Byte} (outside : 16 ≤ q.toNat) :
    s.takeCancel [q, tag] = s.cancelReply [q, tag] .unknown := by
  rw [State.takeCancel, dif_neg (by omega)]

theorem byteOf_reqNo (r : ReqNo) : (byteOf r.val).toNat = r.val := by
  have := r.isLt
  rw [toNat_byteOf]
  omega

theorem State.cancelTarget_byteOf (inside : (byteOf r.val).toNat < 16) :
    s.cancelTarget ⟨(byteOf r.val).toNat, inside⟩ tag = s.cancelTarget r tag :=
  congrArg (s.cancelTarget · tag) (Fin.ext (byteOf_reqNo r))

/-- R87: the rows for a tag that an entry of the list holds. -/
theorem State.takeCancel_found (found : s.cancelTarget r tag = some e) :
    s.takeCancel [byteOf r.val, tag] =
      if e.state = .waiting then s.acceptCancel e else s.cancelReply [byteOf r.val, tag] .tooLate := by
  have inside : (byteOf r.val).toNat < 16 := (byteOf_reqNo r).trans_lt r.isLt
  rw [State.takeCancel, dif_pos inside, State.cancelTarget_byteOf, found]

/-- R87: the rows for a tag that no entry of the list holds. -/
theorem State.takeCancel_absent (absent : s.cancelTarget r tag = none) :
    s.takeCancel [byteOf r.val, tag] =
      s.cancelReply [byteOf r.val, tag] (if tag ∈ s.adm.tags.get r then .tooLate else .unknown) := by
  have inside : (byteOf r.val).toNat < 16 := (byteOf_reqNo r).trans_lt r.isLt
  have same : (⟨(byteOf r.val).toNat, inside⟩ : ReqNo) = r := Fin.ext (byteOf_reqNo r)
  rw [State.takeCancel, dif_pos inside, State.cancelTarget_byteOf, absent, same]

theorem State.cancelTarget_eq_some (h : s.cancelTarget r tag = some e) : e.requester = r ∧ e.tag = tag ∧ e.tagHeld = true := by
  have held := List.find?_some h
  simpa [and_assoc] using held

theorem State.cancelTarget_eq_none (h : ∀ e ∈ s.sched.list, ¬(e.requester = r ∧ e.tag = tag ∧ e.tagHeld = true)) :
    s.cancelTarget r tag = none := by
  refine List.find?_eq_none.2 fun e mem held => h e mem ?_
  simpa [and_assoc] using held

/-- R88, R120: what an accepted cancel does, before the event's rest. -/
theorem State.acceptCancel_eq (s : State) (e : Entry) :
    s.acceptCancel e =
      ({ s with
        adm := { s.adm with slots := (s.freeWriteSlot e).adm.slots }
        sched := { s.sched with list := relink (s.sched.list.filter fun x => x.id ≠ e.id) }
        resp := { s.resp with
          orders := s.resp.orders.set e.requester ((s.resp.orders.get e.requester).map fun p =>
            if p.tag = e.tag && p.state = .owed then { p with state := .void } else p) } } : State).settle := by
  unfold State.acceptCancel
  refine congrArg State.settle ?_
  cases slot : e.writeSlot <;>
    simp [State.freeWriteSlot, slot, State.removeEntry, State.setList, State.readyPlace, State.setOrder]

end

/-- Settles O21: the length of the body, the requester, then the rows of the table. -/
theorem cancelOutcomes : Obligations.CancelOutcomes := by
  unfold Obligations.CancelOutcomes
  intro s f running free waits link answered
  have takes := exec_cancel running free waits
  have whole {r tag : Byte} {res : CancelResult} (length : 2 ≤ f.body.length) (requester : f.body[0]? = some r)
      (named : f.body[1]? = some tag) : (s.dropRx RxFrame.isCancel).cancelReply f.body res = answered r tag res :=
    State.cancelReply_whole length requester named
  refine ⟨fun short => ?_, fun r tag long requester named => ?_, fun r tag body outside => ?_, fun r tag body => ?_⟩
  · refine ⟨s.echoByte f.body 0, s.echoByte f.body 1, fun x carried => ?_, ?_⟩
    · simp [State.echoByte, List.getD_eq_getElem?_getD, carried]
    · rw [takes, State.takeCancel_length (by omega), State.cancelReply, State.echoed, if_pos short]
      rfl
  · rw [takes, State.takeCancel_length (by omega), whole (by omega) requester named]
  · have taken := whole (res := .unknown) (by simp [body]) (by simp [body] : f.body[0]? = some r)
      (by simp [body] : f.body[1]? = some tag)
    rw [body] at taken
    rw [takes, body, State.takeCancel_noRequester outside, taken]
  · have taken (res : CancelResult) := whole (res := res) (by simp [body]) (by simp [body] : f.body[0]? = some (byteOf r.val))
      (by simp [body] : f.body[1]? = some tag)
    rw [body] at taken takes
    refine ⟨fun e found waiting => ?_, fun e found issued => ?_, fun absent held => ?_, fun absent unheld => ?_⟩
    · obtain ⟨rfl, rfl, -⟩ := State.cancelTarget_eq_some (s := s) found
      rw [takes, State.takeCancel_found (s := s.dropRx RxFrame.isCancel) found, if_pos waiting, State.acceptCancel_eq]
      refine congrArg (fun u : State => Host.Outcome.next u.settle) ?_
      cases slot : e.writeSlot <;> simp [State.freeWriteSlot, slot, State.dropRx, State.setLink, link]
    · rw [takes, State.takeCancel_found (s := s.dropRx RxFrame.isCancel) found, if_neg (by rw [issued]; decide), taken]
    all_goals rw [takes, State.takeCancel_absent (State.cancelTarget_eq_none (s := s.dropRx RxFrame.isCancel) absent), taken]
    · exact congrArg (fun result => Host.Outcome.next (answered (byteOf r.val) tag result)) (if_pos held)
    · exact congrArg (fun result => Host.Outcome.next (answered (byteOf r.val) tag result)) (if_neg unheld)

end Sys2Proof.Machine
end

section
/-! PROOFS. The admission of data requests, refused (O18) and taken (O19). -/

namespace Sys2Proof.Machine

/-! ### the checks (R50) -/

section
variable {s : State} {k : ReqKind} {body : List Byte} {q : DataReq} {w : Window} {reason : RefuseReason}

theorem Table.rows_eq {n : Nat} {α : Type} (t : Table n α) : t.rows = List.ofFn t.get := by
  refine List.ext_getElem (by rw [t.len, List.length_ofFn]) fun i h _ => ?_
  simp [Table.get]

/-- R34: the lowest-numbered valid active window that contains the block. -/
theorem State.lookup_eq_some : s.lookup (blockStart k q) q.size.bytes = some w ↔ s.WindowOf k q w := by
  rw [State.lookup, Table.rows_eq, List.find?_ofFn_eq_some]
  simp only [State.WindowOf, Bool.not_eq_true]
  constructor
  · rintro ⟨contains, i, same, first⟩
    exact ⟨i, same, contains, first⟩
  · rintro ⟨i, same, contains, first⟩
    exact ⟨contains, i, same, first⟩

theorem State.lookup_eq_none {start length : Nat} :
    s.lookup start length = none ↔ ∀ i, (s.mgmt.active.windows.get i).contains start length = false := by
  rw [State.lookup, List.find?_eq_none]
  constructor
  · exact fun all i => by simpa using all _ (Table.mem_rows_iff.2 ⟨i, rfl⟩)
  · rintro all _ mem
    obtain ⟨i, rfl⟩ := Table.mem_rows_iff.1 mem
    simp [all i]

theorem State.partCheck_eq_none : s.partCheck = none ↔ s.AdmissionOpen := by
  unfold State.partCheck State.AdmissionOpen
  cases s.mgmt.part.state <;> simp

theorem State.detached_eq_true : s.detached k q.requester = true ↔ s.Detaches k q := by
  rw [State.detached, Bool.and_eq_true, decide_eq_true_eq, decide_eq_true_eq]
  rfl

theorem State.detached_eq_false : s.detached k q.requester = false ↔ ¬s.Detaches k q := by
  rw [← Bool.not_eq_true, State.detached_eq_true]

theorem State.freeWriteSlots_eq_zero : s.freeWriteSlots = 0 ↔ ∀ i, s.adm.slots.get i ≠ none := by
  rw [State.freeWriteSlots, Table.count_eq_zero]
  simp [Option.ne_none_iff_isSome]

/-- R36: the set of requesters that a window lets a request of the kind through for. -/
theorem State.PassesAccess.accessSet (h : s.PassesAccess k body q w) :
    (w.accessSet k).getLsbD q.requester.val = true := by
  cases k <;> exact h.access

/-! ### each check that fails (R52) -/

theorem State.PassesForm.checks (h : s.PassesForm k body q) (fails : s.tableChecks k q = .error reason) :
    s.admissionChecks k body = .error reason := by
  rw [State.admissionChecks, State.partCheck_eq_none.2 h.part, h.form]
  dsimp only
  rw [fails]

/-- R50: checks 4 and 5 pass. -/
theorem State.PassesAccess.tableChecks (h : s.PassesAccess k body q w) :
    s.tableChecks k q =
      if q.tag ∈ s.adm.tags.get q.requester then .error .tagInUse
      else if !s.detached k q.requester && (s.reqEntry q.requester).quota ≤ (s.adm.tags.get q.requester).length then
        .error .quota
      else if 64 ≤ s.sched.list.length then .error .full
      else if k ≠ .read ∧ s.freeWriteSlots = 0 then .error .noWriteSlot
      else .ok w := by
  have enabled : (s.reqEntry q.requester).enabled = true := h.enabled
  unfold State.tableChecks
  rw [if_neg (by simp [enabled]), State.lookup_eq_some.2 h.window]
  dsimp only
  rw [if_neg (by simp [h.accessSet])]

/-- R50: checks 4 to 7 pass. -/
theorem State.PassesQuota.tableChecks (h : s.PassesQuota k body q w) :
    s.tableChecks k q =
      if 64 ≤ s.sched.list.length then .error .full
      else if k ≠ .read ∧ s.freeWriteSlots = 0 then .error .noWriteSlot
      else .ok w := by
  have quota : ¬(!s.detached k q.requester &&
      decide ((s.reqEntry q.requester).quota ≤ (s.adm.tags.get q.requester).length)) = true := by
    rcases h.quota with detaches | below
    · simp [State.detached_eq_true.2 detaches]
    · have below : (s.adm.tags.get q.requester).length < (s.reqEntry q.requester).quota := below
      simp [below]
  rw [h.toPassesAccess.tableChecks, if_neg h.tag, if_neg quota]

theorem State.Admits.checks (h : s.Admits k body q w) : s.admissionChecks k body = .ok (q, w) := by
  have slot : ¬(k ≠ .read ∧ s.freeWriteSlots = 0) := by
    rintro ⟨write, none⟩
    obtain ⟨i, free⟩ := h.slot.resolve_left write
    exact State.freeWriteSlots_eq_zero.1 none i free
  have passes : s.tableChecks k q = .ok w := by
    rw [h.toPassesQuota.tableChecks, if_neg (Nat.not_le.2 h.space), if_neg slot]
  rw [State.admissionChecks, State.partCheck_eq_none.2 h.part, h.form]
  dsimp only
  rw [passes]

/-- R52: the first failing check gives its reason. -/
theorem State.Refuses.checks (h : s.Refuses k body reason) : s.admissionChecks k body = .error reason := by
  cases reason with
  | notReady =>
    have part : s.partCheck = some .notReady := by
      unfold State.partCheck
      rcases h with starting | resuming | ⟨serving, commit, mapChange⟩
      · rw [starting]
      · rw [resuming]
      · rw [serving]
        exact if_pos ⟨commit, mapChange⟩
    rw [State.admissionChecks, part]
  | retained =>
    have part : s.partCheck = some .retained := by
      unfold State.partCheck
      rcases h with draining | retained
      · rw [draining]
      · rw [retained]
    rw [State.admissionChecks, part]
  | malformed => rw [State.admissionChecks, State.partCheck_eq_none.2 h.1, h.2]
  | requesterOff =>
    obtain ⟨part, q, form, disabled⟩ := h
    have off : (s.reqEntry q.requester).enabled = false := disabled
    have fails : s.tableChecks k q = .error .requesterOff := if_pos (by simp [off])
    rw [State.admissionChecks, State.partCheck_eq_none.2 part, form]
    dsimp only
    rw [fails]
  | noWindow =>
    obtain ⟨q, passes, outside⟩ := h
    have enabled : (s.reqEntry q.requester).enabled = true := passes.enabled
    refine passes.checks ?_
    rw [State.tableChecks, if_neg (by simp [enabled]), State.lookup_eq_none.2 outside]
  | denied =>
    obtain ⟨q, w, passes, window, denied⟩ := h
    have enabled : (s.reqEntry q.requester).enabled = true := passes.enabled
    have outside : (w.accessSet k).getLsbD q.requester.val = false := by cases k <;> exact denied
    refine passes.checks ?_
    rw [State.tableChecks, if_neg (by simp [enabled]), State.lookup_eq_some.2 window]
    dsimp only
    rw [if_pos (by rw [outside]; rfl)]
  | tagInUse =>
    obtain ⟨q, w, passes, used⟩ := h
    exact passes.toPassesForm.checks (passes.tableChecks.trans (if_pos used))
  | quota =>
    obtain ⟨q, w, passes, unused, holds, spent⟩ := h
    have spent : (s.reqEntry q.requester).quota ≤ (s.adm.tags.get q.requester).length := spent
    refine passes.toPassesForm.checks ?_
    rw [passes.tableChecks, if_neg unused, if_pos (by simp [State.detached_eq_false.2 holds, spent])]
  | full =>
    obtain ⟨q, w, passes, full⟩ := h
    exact passes.toPassesForm.checks (passes.tableChecks.trans (if_pos full))
  | noWriteSlot =>
    obtain ⟨q, w, passes, space, write, taken⟩ := h
    refine passes.toPassesForm.checks ?_
    rw [passes.tableChecks, if_neg (Nat.not_le.2 space), if_pos ⟨write, State.freeWriteSlots_eq_zero.2 taken⟩]

/-! ### one of the two happens -/

/-- R52: one of the ten reasons, or all nine checks pass. -/
theorem State.refuses_or_admits (s : State) (k : ReqKind) (body : List Byte) :
    (∃ reason, s.Refuses k body reason) ∨ ∃ q w, s.Admits k body q w := by
  by_cases part : s.AdmissionOpen
  · cases form : parseReq k body with
    | none => exact .inl ⟨.malformed, part, form⟩
    | some q =>
      cases enabled : (s.mgmt.active.requesters.get q.requester).enabled with
      | false => exact .inl ⟨.requesterOff, part, q, form, enabled⟩
      | true =>
        have passes : s.PassesForm k body q := ⟨part, form, enabled⟩
        cases window : s.lookup (blockStart k q) q.size.bytes with
        | none => exact .inl ⟨.noWindow, q, passes, State.lookup_eq_none.1 window⟩
        | some w =>
          have window := State.lookup_eq_some.1 window
          cases access : (match k with | .read => w.readSet | _ => w.writeSet).getLsbD q.requester.val with
          | false => exact .inl ⟨.denied, q, w, passes, window, access⟩
          | true =>
            have passes : s.PassesAccess k body q w := { passes with window := window, access := access }
            by_cases used : q.tag ∈ s.adm.tags.get q.requester
            · exact .inl ⟨.tagInUse, q, w, passes, used⟩
            by_cases quota : s.Detaches k q ∨
                (s.adm.tags.get q.requester).length < (s.mgmt.active.requesters.get q.requester).quota
            · have passes : s.PassesQuota k body q w := { passes with tag := used, quota := quota }
              by_cases space : s.sched.list.length < 64
              · by_cases slot : k = .read ∨ ∃ i, s.adm.slots.get i = none
                · exact .inr ⟨q, w, { passes with space := space, slot := slot }⟩
                · obtain ⟨write, taken⟩ := not_or.1 slot
                  exact .inl ⟨.noWriteSlot, q, w, passes, space, write, not_exists.1 taken⟩
              · exact .inl ⟨.full, q, w, passes, Nat.not_lt.1 space⟩
            · obtain ⟨holds, spent⟩ := not_or.1 quota
              exact .inl ⟨.quota, q, w, passes, used, holds, Nat.not_lt.1 spent⟩
  · left
    cases state : s.mgmt.part.state with
    | starting => exact ⟨.notReady, .inl state⟩
    | resuming => exact ⟨.notReady, .inr (.inl state)⟩
    | draining => exact ⟨.retained, .inl state⟩
    | retained => exact ⟨.retained, .inr state⟩
    | serving =>
      have commit := not_not.1 fun none => part ⟨state, none⟩
      exact ⟨.notReady, .inr (.inr ⟨state, commit⟩)⟩

theorem State.Arrives.exec (h : s.Arrives k body) :
    exec k.command s = .next ((s.dropRx RxFrame.isData).takeRequest k body) := by
  obtain ⟨f, waits, kind, rfl⟩ := h.frame
  rw [exec_admission, State.event_running h.running, State.admission, waits]
  dsimp only
  rw [if_pos ⟨kind, h.hold⟩]

end

/-- Settles O18: each reason in its check's place; the reply echoes what the body carries. -/
theorem requestRefused : Obligations.RequestRefused := by
  unfold Obligations.RequestRefused
  intro s k body h
  refine ⟨s.refuses_or_admits k body, fun reason refuses => ?_⟩
  have fails : (s.dropRx RxFrame.isData).admissionChecks k body = .error reason := refuses.checks
  refine ⟨s.echoByte body 0, s.echoByte body 1, fun x carried => ?_, fun x carried => ?_, ?_⟩
  · simp [State.echoByte, List.getD_eq_getElem?_getD, carried]
  · simp [State.echoByte, List.getD_eq_getElem?_getD, carried]
  · rw [h.exec, State.takeRequest, fails]
    by_cases short : body.length < 2
    · rw [if_pos short]
      simp only [State.refuse, State.echoed, if_pos short]
      rfl
    · rw [if_neg short]
      simp only [State.refuse, State.echoed, if_neg short]
      rfl

/-! ### the admitted request (R56 to R61) -/

section
variable {s : State} {k : ReqKind} {q : DataReq} {w : Window}

theorem State.newEntry_tagHeld : (s.newEntry k q w).tagHeld =
    decide (k = .read ∨ (s.mgmt.active.requesters.get q.requester).ackPoint = .commit) := by
  cases k <;> cases ack : (s.mgmt.active.requesters.get q.requester).ackPoint <;>
    simp [State.newEntry, State.detached, State.reqEntry, ack]

end

/-- Settles O19: the entry of the admitted request, by whether it holds its tag. -/
theorem requestAdmitted : Obligations.RequestAdmitted := by
  unfold Obligations.RequestAdmitted
  intro s k body q w h passes entry start p mode held slot e data
  have checks : (s.dropRx RxFrame.isData).admissionChecks k body = .ok (q, w) := passes.checks
  rw [h.exec, State.takeRequest, checks]
  refine congrArg (fun u : State => Host.Outcome.next u.settle) ?_
  have entry_eq : (s.dropRx RxFrame.isData).newEntry k q w = { e with blockedBy := youngestConflict s.sched.list e } := by
    have same : (s.dropRx RxFrame.isData).newEntry k q w = s.newEntry k q w := rfl
    have tag : (!s.detached k q.requester) = held := State.newEntry_tagHeld (w := w)
    have first : w.translate (blockStart k q) = p := by rw [blockStart_eq]; rfl
    have lead : (q.address - blockStart k q) / 32 = (q.address - start) / 32 := by rw [blockStart_eq]
    rw [same, State.newEntry]
    simp only [tag, first, lead]
    rfl
  rw [State.admitRequest, entry_eq]
  have free := h.hold
  have fill : (s.dropRx RxFrame.isData).fillSlot q { e with blockedBy := youngestConflict s.sched.list e } =
      { s.dropRx RxFrame.isData with adm := { s.adm with
        slots := slot.elim s.adm.slots fun i => s.adm.slots.set i (some data) } } := by
    unfold State.fillSlot
    dsimp only [e]
    cases slot <;> rfl
  rw [fill]
  dsimp only
  split
  next holds =>
    rw [State.append, State.holdTag, State.setOrder]
    dsimp only
    rw [free]
    cases slot <;> rfl
  next detached => cases slot <;> rfl

end Sys2Proof.Machine
end

section
/-! PROOFS. The commit point (O45), what follows in the event itself (O46), and what an event's end leaves alone (O17). -/

namespace Sys2Proof.Machine

/-! ### the commit point (R164) -/

section
variable {s : State}

/-- R19, R173, R180: the part state as RUN is entered. -/
def PartState.inRun (p : PartState) : PartState := if p = .starting ∨ p = .resuming then .serving else p

/-- R20: the commit halt is withdrawn. -/
theorem State.withdrawCommitHalt_eq (s : State) :
    s.withdrawCommitHalt =
      { s with
        port := { s.port with
          commitHalt := false
          mode := if s.port.lastHalt s.port.commitHalt s.port.drainHalt then .run else s.port.mode }
        mgmt := { s.mgmt with part := { s.mgmt.part with
          state := if s.port.lastHalt s.port.commitHalt s.port.drainHalt then s.mgmt.part.state.inRun
            else s.mgmt.part.state } } } := by
  unfold State.withdrawCommitHalt State.afterWithdrawal
  cases commit : s.port.commitHalt with
  | false =>
    have stays : ¬s.port.lastHalt false s.port.drainHalt = true := by simp [Port.lastHalt]
    rw [if_neg (by simp), if_neg stays, if_neg stays, ← commit]
  | true =>
    rw [if_pos rfl]
    by_cases last : s.port.lastHalt true s.port.drainHalt = true
    · obtain ⟨drain, _, mode⟩ := Port.lastHalt_eq_true.1 last
      rw [if_pos ⟨mode, rfl, drain⟩, if_pos last, if_pos last]
      rfl
    · have stays (mode : s.port.mode = .halting ∨ s.port.mode = .halted) : ¬s.port.drainHalt = false := fun drain =>
        last (Port.lastHalt_eq_true.2 ⟨drain, rfl, mode⟩)
      rw [if_neg fun ⟨mode, _, drain⟩ => stays mode drain, if_neg last, if_neg last]

/-- R164: the reply that the commit still owes. -/
def CommitRecord.owed (c : CommitRecord) : List OutFrame :=
  match c.replyOwed with
  | some (.owed e) => [.manageReply e .ok .none 0 []]
  | _ => []

theorem State.commitReply_eq (s : State) (c : CommitRecord) :
    s.commitReply c.replyOwed = { s with mgmt := { s.mgmt with replies := s.mgmt.replies ++ c.owed } } := by
  unfold State.commitReply CommitRecord.owed
  split <;> simp [State.reply, *]

theorem State.commitPoint_eq (s : State) :
    s.commitPoint =
      { s.applyCommit with
        port := { s.port with
          commitHalt := false
          mode := if s.port.lastHalt s.port.commitHalt s.port.drainHalt then .run else s.port.mode }
        mgmt := { s.mgmt.atCommit with
          part := { s.mgmt.part with
            state := if s.port.lastHalt s.port.commitHalt s.port.drainHalt then s.mgmt.part.state.inRun
              else s.mgmt.part.state }
          replies := s.mgmt.replies ++ s.mgmt.commit.owed } } := by
  simp only [State.commitPoint]
  rw [State.commitReply_eq, State.withdrawCommitHalt_eq]
  rfl

/-- R38: a window maps a bank: some byte of its physical range lies in the bank's 64 MiB, but under BANK-FIRST every bank. -/
theorem Window.maps_iff {w : Window} {m : MapMode} {b : BankNo} : w.maps m b = true ↔ m = .bankFirst ∨
    ∃ n, w.physicalBase ≤ n ∧ n < w.physicalBase + 2 ^ w.sizeExp ∧ b.val * 64 ≤ n ∧ n < b.val * 64 + 64 := by
  have size := Nat.two_pow_pos w.sizeExp
  cases m with
  | bankFirst => simp [Window.maps]
  | pageFirst =>
    simp only [Window.maps, Bool.and_eq_true, decide_eq_true_eq, reduceCtorEq, false_or]
    constructor
    · rintro ⟨low, high⟩
      exact ⟨max w.physicalBase (b.val * 64), by omega⟩
    · rintro ⟨n, bounds⟩
      omega

theorem exemptIn_iff {o : Objects} {b : BankNo} : exemptIn o b = true ↔ (∃ i, (o.windows.get i).valid = true) ∧
    ∀ i, (o.windows.get i).valid = true → (o.windows.get i).content = .retained →
      ¬(o.windows.get i).maps o.timing.mapMode b = true := by
  have any {p : Window → Bool} : o.windows.rows.any p = true ↔ ∃ i, p (o.windows.get i) = true := by
    rw [List.any_eq_true]
    constructor
    · rintro ⟨w, mem, holds⟩
      obtain ⟨i, rfl⟩ := Table.mem_rows_iff.1 mem
      exact ⟨i, holds⟩
    · rintro ⟨i, holds⟩
      exact ⟨_, Table.mem_rows_iff.2 ⟨i, rfl⟩, holds⟩
  rw [exemptIn, Bool.and_eq_true, any, Bool.not_eq_true', ← Bool.not_eq_true, any]
  simp

end

/-- Settles O45: the equation of the commit point, with the exemption set spelled out. -/
theorem commitPointEffects : Obligations.CommitPointEffects := by
  unfold Obligations.CommitPointEffects
  intro s o t touches exempt back served
  have exempt_iff (b : BankNo) : exemptIn o b = true ↔ exempt b := by
    simp only [exemptIn_iff, Window.maps_iff]
    rfl
  have same : back = s.port.lastHalt s.port.commitHalt s.port.drainHalt := by
    simp only [back, Port.lastHalt, Bool.and_comm s.port.commitHalt]
  have point : t = _ := s.commitPoint_eq
  have runs (p : PartState) : served p = p.inRun := by cases p <;> rfl
  refine ⟨?_, ?_, fun b => ⟨fun inSet => ?_, fun outside => ?_⟩, fun b page chunk hp hk =>
    ⟨fun mode old outside => ?_, fun kept => ?_⟩, ?_, fun b => ?_, ?_⟩
  · rw [point, same, runs]
    rfl
  · rw [point, same]
  · rw [point]
    refine (Table.get_mapIdx _ _ _).trans ?_
    rw [Renewal.atCommit, if_pos ((exempt_iff b).2 inSet)]
  · rw [point]
    refine (Table.get_mapIdx _ _ _).trans ?_
    rw [Renewal.atCommit, if_neg (mt (exempt_iff b).1 outside)]
  · rw [point]
    have left : exemptIn o b = false := by simpa using mt (exempt_iff b).1 outside
    refine (congrArg (Store.find · _) (if_neg mode)).trans ?_
    rw [Store.find_decayWhere _ _ _ hp hk, if_pos (by simp [old, o, left])]
  · rw [point]
    by_cases mode : s.port.mode = .held
    · exact congrArg (Store.find · _) (if_pos mode)
    · refine (congrArg (Store.find · _) (if_neg mode)).trans ?_
      have stays : ¬(s.exemptBank b && !exemptIn s.mgmt.staged b) = true := by
        rcases kept.resolve_left mode with old | new
        · simp [old]
        · have inSet : exemptIn s.mgmt.staged b = true := (exempt_iff b).2 new
          simp [inSet]
      rw [Store.find_decayWhere _ _ _ hp hk, if_neg stays]
  · rw [point]
    rfl
  · rw [point]
    exact Table.get_mapIdx _ _ _
  · rw [point]
    rfl

/-! ### the tests at an event's end (R20, R22, R163, R165, R175 to R177) -/

section
variable {s u : State}

theorem PortMode.onHalt_eq (m : PortMode) : m.onHalt = if m = .run then .halting else m := by cases m <;> rfl

/-- R163, R175: a drain that waits for the empty list. -/
abbrev State.Draining (s : State) : Prop := s.mgmt.part.state = .draining ∧ s.mgmt.part.stage = some .list

/-- R163, R175: the halts that the empty list asks for. -/
def State.withHalts (s : State) (commit drain : Bool) : State :=
  { s with
    port := { s.port with
      commitHalt := s.port.commitHalt || commit
      drainHalt := s.port.drainHalt || drain
      mode := if commit || drain then s.port.mode.onHalt else s.port.mode }
    mgmt := { s.mgmt with
      commit := { s.mgmt.commit with state := if commit then .haltWait else s.mgmt.commit.state }
      part := { s.mgmt.part with stage := if drain then some .halt else s.mgmt.part.stage } } }

/-- R163: a commit that waits for its halt, which the empty list has asked for where the commit waited for the list. -/
def State.haltAsked (s : State) : State :=
  { s with
    port := { s.port with commitHalt := s.port.commitHalt || decide (s.mgmt.commit.state = .listWait) }
    mgmt := { s.mgmt with commit := { s.mgmt.commit with state := .haltWait } } }

theorem State.listEmptyTest_empty (empty : s.sched.list = []) :
    s.listEmptyTest = s.withHalts (decide (s.mgmt.commit.state = .listWait)) (decide s.Draining) := by
  have idle (m : PortMode) : m.onHalt.onHalt = m.onHalt := by cases m <;> rfl
  unfold State.listEmptyTest State.withHalts
  rw [if_pos empty]
  by_cases waits : s.mgmt.commit.state = .listWait
  · simp only [if_pos waits, decide_eq_true waits]
    by_cases drains : s.Draining
    · refine (if_pos drains).trans ?_
      simp [State.requestCommitHalt, State.requestDrainHalt, State.setPart, idle, drains]
    · refine (if_neg drains).trans ?_
      simp [State.requestCommitHalt, drains]
  · simp only [if_neg waits, decide_eq_false waits]
    by_cases drains : s.Draining
    · refine (if_pos drains).trans ?_
      simp [State.requestDrainHalt, State.setPart, drains]
    · refine (if_neg drains).trans ?_
      simp [drains]

theorem State.listEmptyTest_still (h : s.sched.list ≠ [] ∨ s.mgmt.commit.state ≠ .listWait ∧ ¬s.Draining) :
    s.listEmptyTest = s := by
  unfold State.listEmptyTest
  split
  next empty =>
    obtain ⟨waits, drains⟩ := h.resolve_left (not_not.2 empty)
    simp only [if_neg waits]
    exact if_neg drains
  next => rfl

/-- R21: HALTED is the mode, or comes now. -/
abbrev State.Halts (s : State) : Prop := s.port.mode = .halting ∧ (∀ b, (s.bank b).state = .closed) ∨ s.port.mode = .halted

theorem State.banksIn_closed : s.banksIn .closed = 16 ↔ ∀ b, (s.bank b).state = .closed := by
  simp [State.banksIn, Table.count_eq_all, State.bank]

theorem State.banksIn_renewing_of_closed (closed : ∀ b, (s.bank b).state = .closed) : s.banksIn .renewing = 0 := by
  rw [State.banksIn, Table.count_eq_zero]
  intro b
  have closed : (s.port.banks.get b).state = .closed := closed b
  simp [closed]

theorem State.setMode_same {m : PortMode} (h : s.port.mode = m) : s.setMode m = s := by
  rw [State.setMode, ← h]

theorem State.advance_unhalted (list : s.listEmptyTest = u) (mode : u.port.mode ≠ .halted)
    (closed : u.port.mode = .halting → u.banksIn .closed ≠ 16) : s.advance = u := by
  have halted : u.haltedTest = u := if_neg fun ⟨halting, all⟩ => closed halting all
  have commit : u.commitTest = u := if_neg fun ⟨no, _⟩ => mode no
  have request : u.holdRequestTest = u := if_neg fun ⟨no, _⟩ => mode no
  rw [State.advance, list, halted, commit, request]
  exact if_neg fun ⟨no, _⟩ => mode no

theorem State.advance_halts (list : s.listEmptyTest = u) (halts : u.Halts) :
    s.advance = (u.setMode .halted).commitTest.holdRequestTest.holdTest := by
  have halted : u.haltedTest = u.setMode .halted := by
    unfold State.haltedTest
    rcases halts with ⟨mode, closed⟩ | mode
    · exact if_pos ⟨mode, State.banksIn_closed.2 closed⟩
    · rw [if_neg (by simp [mode]), State.setMode_same mode]
  rw [State.advance, list, halted]

theorem State.advance_halted (list : s.listEmptyTest = u) (mode : u.port.mode = .halted) :
    s.advance = u.commitTest.holdRequestTest.holdTest := by
  rw [State.advance_halts list (.inr mode), State.setMode_same mode]

/-- R177: the reply that the drain owes to its ENTER-RETAIN. -/
def Part.retained (p : Part) : List OutFrame :=
  match p.retainOwed with
  | some e => [.manageReply e .ok .none 0 []]
  | none => []

/-- R10, R22, R106, R177: the state that the hold leaves. -/
def State.held (s : State) : State :=
  { s with
    port := { s.port with mode := .held, holdReq := false, banks := Table.fill 16 (Bank.idle .held) }
    ren := { s.ren with tick := none }
    array := s.array.decayWhere s.exemptBank
    mgmt := { s.mgmt with
      part := { s.mgmt.part with state := .retained, stage := none, retainOwed := none }
      replies := s.mgmt.replies ++ s.mgmt.part.retained } }

theorem State.issueHold_eq (s : State) : s.issueHold = s.held := by
  simp only [State.issueHold, State.enterRetained, State.held, State.allBanks, State.setPart]
  cases owed : s.mgmt.part.retainOwed <;> simp [Part.retained, owed, State.reply]

theorem State.holdTest_renewing (calm : s.banksIn .renewing = 0) (mode : s.port.mode = .halted) (asked : s.port.holdReq = true) :
    s.holdTest = s.held := by
  rw [State.holdTest, if_pos ⟨mode, asked, calm⟩, State.issueHold_eq]

theorem State.holdTest_waits (h : s.port.holdReq = false ∨ 0 < s.banksIn .renewing) : s.holdTest = s := by
  refine if_neg ?_
  rintro ⟨-, asked, calm⟩
  rcases h with unasked | some
  · rw [unasked] at asked
    cases asked
  · omega

theorem State.holdRequestTest_stage (stage : s.mgmt.part.stage ≠ some .halt) : s.holdRequestTest = s :=
  if_neg fun ⟨_, halt, _⟩ => stage halt

/-- R175: a drain in stage HALT sends its hold request, with no commit in progress. -/
theorem State.holdRequestTest_halt (mode : s.port.mode = .halted) (stage : s.mgmt.part.stage = some .halt)
    (commit : s.mgmt.commit.state = .none) :
    s.holdRequestTest =
      { s with
        port := { s.port with holdReq := true }
        mgmt := { s.mgmt with part := { s.mgmt.part with stage := some .hold } } } :=
  if_pos ⟨mode, stage, commit⟩

/-- R176: a drain in stage HALT holds the array where no bank is RENEWING. -/
theorem State.holdRequestTest_held (mode : s.port.mode = .halted) (stage : s.mgmt.part.stage = some .halt)
    (commit : s.mgmt.commit.state = .none) (calm : s.banksIn .renewing = 0) : s.holdRequestTest.holdTest = s.held := by
  rw [State.holdRequestTest_halt mode stage commit]
  exact State.holdTest_renewing (s := { s with
    port := { s.port with holdReq := true }
    mgmt := { s.mgmt with part := { s.mgmt.part with stage := some .hold } } }) calm mode rfl

theorem State.commitTest_waits (mode : s.port.mode = .halted) (waits : s.mgmt.commit.state = .haltWait) :
    s.commitTest = s.commitPoint := if_pos ⟨mode, waits⟩

theorem State.commitTest_still (commit : s.mgmt.commit.state ≠ .haltWait) : s.commitTest = s :=
  if_neg fun ⟨_, waits⟩ => commit waits

/-- R20: a commit point keeps the mode while a drain halt stands. -/
theorem State.commitPoint_mode (drain : s.port.drainHalt = true) : s.commitPoint.port.mode = s.port.mode := by
  rw [State.commitPoint_eq]
  exact if_neg (by simp [Port.lastHalt, drain])

theorem State.commitPoint_stage : s.commitPoint.mgmt.part.stage = s.mgmt.part.stage := by rw [State.commitPoint_eq]

theorem State.commitPoint_commit : s.commitPoint.mgmt.commit.state = .none := by
  rw [State.commitPoint_eq]
  rfl

theorem State.commitPoint_holdReq : s.commitPoint.port.holdReq = s.port.holdReq := by rw [State.commitPoint_eq]

theorem State.commitPoint_banksIn (st : BankState) : s.commitPoint.banksIn st = s.banksIn st := by
  rw [State.commitPoint_eq]
  rfl

/-- R165: a commit point at HALTED with no drain behind it. -/
theorem State.haltedCommit_alone (mode : s.port.mode = .halted) (waits : s.mgmt.commit.state = .haltWait)
    (stage : s.mgmt.part.stage = none) (unasked : s.port.holdReq = false) :
    s.commitTest.holdRequestTest.holdTest = s.commitPoint := by
  have stays : s.commitPoint.mgmt.part.stage ≠ some .halt := by simp [State.commitPoint_stage, stage]
  rw [State.commitTest_waits mode waits, State.holdRequestTest_stage stays,
    State.holdTest_waits (.inl (State.commitPoint_holdReq.trans unasked))]

/-- R165, R176: a commit point at HALTED, then the hold of a drain in stage HALT. -/
theorem State.haltedCommit_held (mode : s.port.mode = .halted) (waits : s.mgmt.commit.state = .haltWait)
    (stage : s.mgmt.part.stage = some .halt) (drain : s.port.drainHalt = true) (calm : s.banksIn .renewing = 0) :
    s.commitTest.holdRequestTest.holdTest = s.commitPoint.held := by
  rw [State.commitTest_waits mode waits]
  exact State.holdRequestTest_held ((State.commitPoint_mode drain).trans mode) (State.commitPoint_stage.trans stage)
    State.commitPoint_commit ((State.commitPoint_banksIn _).trans calm)

/-- R165, R176: a commit point at HALTED with a drain in stage HOLD, which goes on with its hold. -/
theorem State.haltedCommit_holding (mode : s.port.mode = .halted) (waits : s.mgmt.commit.state = .haltWait)
    (stage : s.mgmt.part.stage = some .hold) (drain : s.port.drainHalt = true) (asked : s.port.holdReq = true) :
    (0 < s.banksIn .renewing → s.commitTest.holdRequestTest.holdTest = s.commitPoint) ∧
      (s.banksIn .renewing = 0 → s.commitTest.holdRequestTest.holdTest = s.commitPoint.held) := by
  have renewing : s.commitPoint.banksIn .renewing = s.banksIn .renewing := State.commitPoint_banksIn _
  rw [State.commitTest_waits mode waits, State.holdRequestTest_stage (by simp [State.commitPoint_stage, stage])]
  refine ⟨fun renews => State.holdTest_waits (.inr (renewing ▸ renews)), fun calm => ?_⟩
  exact State.holdTest_renewing (renewing.trans calm) ((State.commitPoint_mode drain).trans mode)
    (State.commitPoint_holdReq.trans asked)

/-- R20: neither HALTED nor about to be. -/
abbrev State.Unhalted (s : State) : Prop :=
  (s.port.mode = .run ∨ s.port.mode = .halting) ∧ s.banksIn .closed < 16 ∨ s.port.mode = .init ∨ s.port.mode = .waking

theorem State.withHalts_mode {commit drain : Bool} : (s.withHalts commit drain).port.mode =
    if commit || drain then s.port.mode.onHalt else s.port.mode := rfl

/-- R163, R175: with an empty list and a bank still to be closed, the halts are asked for and nothing else happens. -/
theorem State.advance_asks (empty : s.sched.list = []) (mode : s.Unhalted) :
    s.advance = s.withHalts (decide (s.mgmt.commit.state = .listWait)) (decide s.Draining) := by
  have onHalt : s.port.mode.onHalt ≠ .halted ∧ s.port.mode ≠ .halted ∧ (s.banksIn .closed ≠ 16 ∨
      s.port.mode.onHalt ≠ .halting ∧ s.port.mode ≠ .halting) := by
    rcases mode with ⟨mode | mode, some⟩ | mode | mode
    · exact ⟨by simp [mode, PortMode.onHalt], by simp [mode], .inl (by omega)⟩
    · exact ⟨by simp [mode, PortMode.onHalt], by simp [mode], .inl (by omega)⟩
    · simp [mode, PortMode.onHalt]
    · simp [mode, PortMode.onHalt]
  obtain ⟨asked, unasked, closing⟩ := onHalt
  refine State.advance_unhalted (State.listEmptyTest_empty empty) ?_ fun halting all => ?_
  · rw [State.withHalts_mode]
    split
    · exact asked
    · exact unasked
  · have all : s.banksIn .closed = 16 := all
    rw [State.withHalts_mode] at halting
    obtain ⟨askedMode, mode⟩ := closing.resolve_left (not_not.2 all)
    split at halting
    · exact askedMode halting
    · exact mode halting

/-- R163, R175: with an empty list and every bank CLOSED, HALTED comes in the same event. -/
theorem State.advance_closed (empty : s.sched.list = []) (closed : ∀ b, (s.bank b).state = .closed)
    (mode : s.port.mode = .halting ∨ s.port.mode = .run ∧ (s.Draining ∨ s.mgmt.commit.state = .listWait)) :
    s.advance = ((s.withHalts (decide (s.mgmt.commit.state = .listWait)) (decide s.Draining)).setMode
      .halted).commitTest.holdRequestTest.holdTest := by
  refine State.advance_halts (State.listEmptyTest_empty empty) (.inl ⟨?_, closed⟩)
  rw [State.withHalts_mode]
  rcases mode with mode | ⟨mode, drains | waits⟩
  · simp [mode, PortMode.onHalt]
  · simp [mode, PortMode.onHalt, drains]
  · simp [mode, PortMode.onHalt, waits]

end

/-- Settles O46: the halts that the empty list asks for, then each test in its turn. -/
theorem haltAndDrainAdvance : Obligations.HaltAndDrainAdvance := by
  unfold Obligations.HaltAndDrainAdvance
  intro s draining unhalted waits held bothHalts
  have same (v : State) : v.held = held v := rfl
  have still (commit : s.mgmt.commit.state ≠ .listWait) (stage : s.mgmt.part.stage ≠ some .list) : s.listEmptyTest = s :=
    State.listEmptyTest_still (.inr ⟨commit, fun drains => stage drains.2⟩)
  have idle (commit : s.mgmt.commit.state = .none) (stage : s.mgmt.part.stage ≠ some .list) : s.listEmptyTest = s :=
    still (by simp [commit]) stage
  have halted (commit : s.mgmt.commit.state = .none) (stage : s.mgmt.part.stage ≠ some .list)
      (mode : s.port.mode = .halted) : s.advance = s.holdRequestTest.holdTest := by
    rw [State.advance_halted (idle commit stage) mode, State.commitTest_still (by simp [commit])]
  have commit (waits : waits) : (if decide (s.mgmt.commit.state = .listWait) = true then .haltWait
      else s.mgmt.commit.state) = CommitState.haltWait := by
    rcases waits with list | halt
    · rw [if_pos (decide_eq_true list)]
    · rw [if_neg (by simp [halt]), halt]
  have both (waits : waits) (part : s.mgmt.part.state = .draining)
      (stage : s.mgmt.part.stage = some .list ∨ s.mgmt.part.stage = some .halt ∧ s.port.drainHalt = true) :
      s.withHalts (decide (s.mgmt.commit.state = .listWait)) (decide s.Draining) =
        bothHalts (if decide (s.mgmt.commit.state = .listWait) || decide s.Draining then s.port.mode.onHalt
          else s.port.mode) := by
    have drain : (if decide s.Draining = true then some .halt else s.mgmt.part.stage) = some DrainStage.halt ∧
        (s.port.drainHalt || decide s.Draining) = true := by
      rcases stage with list | ⟨halt, asked⟩
      · have drains : s.Draining := ⟨part, list⟩
        simp [drains]
      · simp [halt, asked]
    obtain ⟨stage, asked⟩ := drain
    unfold State.withHalts
    rw [commit waits, stage, asked]
  refine ⟨fun _ => List.countP_eq_length_filter, fun b page chunk hp hk => Store.find_decayWhere _ _ b hp hk,
    fun still mode => ?_, fun empty drains commit mode => ?_, fun empty commit stage mode => ?_,
    fun halts commit stage unasked drain => ?_, fun stage commit => ⟨fun mode closed => ?_, fun mode calm => ?_, fun mode renews => ?_⟩,
    fun stage commit mode asked => ⟨fun renews => ?_, fun calm => ?_⟩, fun empty drains commit mode closed => ?_,
    fun empty commit stage unasked drain mode closed => ?_, fun empty waits part stage unhalted mode asks => ?_,
    fun empty waits part stage unhalted mode => ?_, fun empty waits part stage mode closed => ?_,
    fun empty waits stage mode asked drain => ?_⟩
  · refine State.advance_unhalted (State.listEmptyTest_still still) ?_ fun halting => ?_
    · rcases mode with mode | ⟨mode, -⟩ <;> simp [mode]
    · rcases mode with mode | ⟨-, some⟩
      · simp [mode] at halting
      · omega
  · have drains : s.Draining := drains
    have unlisted : decide (s.mgmt.commit.state = .listWait) = false := by simp [commit]
    rw [State.advance_asks empty mode, decide_eq_true drains, unlisted]
    simp [State.withHalts, PortMode.onHalt_eq]
  · have drains : ¬s.Draining := fun ⟨_, list⟩ => by simp [stage] at list
    rw [State.advance_asks empty mode, decide_eq_false drains]
    simp [State.withHalts, commit, PortMode.onHalt_eq]
  · rw [State.advance_halts (still (by simp [commit]) (by simp [stage])) halts]
    exact State.haltedCommit_alone (s := s.setMode .halted) rfl commit stage unasked
  · rw [State.advance_halts (idle commit (by simp [stage])) (.inl ⟨mode, closed⟩),
      State.commitTest_still (s := s.setMode .halted) (by simp [commit])]
    exact State.holdRequestTest_held (s := s.setMode .halted) rfl stage commit (State.banksIn_renewing_of_closed closed)
  · rw [halted commit (by simp [stage]) mode]
    exact State.holdRequestTest_held mode stage commit calm
  · rw [halted commit (by simp [stage]) mode, State.holdRequestTest_halt mode stage commit]
    exact State.holdTest_waits (.inr renews)
  · rw [halted commit (by simp [stage]) mode, State.holdRequestTest_stage (by simp [stage])]
    exact State.holdTest_waits (.inr renews)
  · rw [halted commit (by simp [stage]) mode, State.holdRequestTest_stage (by simp [stage])]
    exact State.holdTest_renewing calm mode asked
  · have drains : s.Draining := drains
    have asks : s.port.mode = .halting ∨ s.port.mode = .run ∧ (s.Draining ∨ s.mgmt.commit.state = .listWait) :=
      mode.symm.imp_right fun run => ⟨run, .inl drains⟩
    have unlisted : decide (s.mgmt.commit.state = .listWait) = false := by simp [commit]
    have asked : (s.withHalts false true).setMode .halted =
        { s with
          port := { s.port with drainHalt := true, mode := .halted }
          mgmt := { s.mgmt with part := { s.mgmt.part with stage := some .halt } } } := by
      simp [State.withHalts, State.setMode]
    rw [State.advance_closed empty closed asks, decide_eq_true drains, unlisted,
      State.commitTest_still (s := (s.withHalts false true).setMode .halted) (by simp [State.withHalts, commit]), asked]
    exact State.holdRequestTest_held rfl rfl commit (State.banksIn_renewing_of_closed closed)
  · have drains : ¬s.Draining := fun ⟨_, list⟩ => by simp [stage] at list
    have asks : s.port.mode = .halting ∨ s.port.mode = .run ∧ (s.Draining ∨ s.mgmt.commit.state = .listWait) :=
      mode.symm.imp_right fun run => ⟨run, .inr commit⟩
    rw [State.advance_closed empty closed asks, decide_eq_true commit, decide_eq_false drains]
    refine (State.haltedCommit_alone (s := (s.withHalts true false).setMode .halted) rfl rfl stage unasked).trans ?_
    simp [State.withHalts, State.setMode]
  · rw [State.advance_asks empty unhalted, both waits part stage, mode]
    have asked : (decide (s.mgmt.commit.state = .listWait) || decide s.Draining) = true := by
      rcases asks with drains | commit
      · have drains : s.Draining := drains
        simp [drains]
      · simp [commit]
    rw [if_pos asked]
    rfl
  · rw [State.advance_asks empty unhalted, both waits part stage]
    have stays : s.port.mode.onHalt = s.port.mode := by rw [PortMode.onHalt_eq, if_neg mode]
    rw [stays, ite_self]
  · rw [State.advance_closed empty closed (mode.imp_right id), both waits part stage]
    exact State.haltedCommit_held (s := bothHalts .halted) rfl rfl rfl rfl (State.banksIn_renewing_of_closed closed)
  · have drains : ¬s.Draining := fun ⟨_, list⟩ => by simp [stage] at list
    intro v
    have list : s.listEmptyTest = s.haltAsked := by
      rw [State.listEmptyTest_empty empty, decide_eq_false drains, State.withHalts, commit waits, mode]
      simp [State.haltAsked, PortMode.onHalt, mode]
    rw [State.advance_halted list mode]
    exact State.haltedCommit_holding (s := s.haltAsked) mode rfl stage drain asked

/-! ### what an event's end leaves alone (R58, R69) -/

section
variable {s : State}

/-- R28: an issue leaves the cancel reply hold and the wake's timer. -/
theorem State.issue_keeps (s : State) (c : Cand) :
    (s.issue c).sched.cancelHold = s.sched.cancelHold ∧ (s.issue c).port.tExit = s.port.tExit := by
  have reserve (s : State) (e : Entry) : (s.reserveSlot e).sched.cancelHold = s.sched.cancelHold ∧
      (s.reserveSlot e).port.tExit = s.port.tExit := by
    unfold State.reserveSlot
    split
    · split <;> exact ⟨rfl, rfl⟩
    · exact ⟨rfl, rfl⟩
  unfold State.issue
  split
  · exact ⟨rfl, rfl⟩
  · unfold State.issueAccess
    exact reserve _ _
  · exact ⟨rfl, rfl⟩
  · exact ⟨rfl, rfl⟩

theorem gate_keeps (n : Nat) (s : State) :
    (gate n s).sched.cancelHold = s.sched.cancelHold ∧ (gate n s).port.tExit = s.port.tExit := by
  induction n generalizing s with
  | zero => exact ⟨rfl, rfl⟩
  | succ n ih =>
    unfold gate
    split
    next c _ => exact ⟨(ih _).1.trans (s.issue_keeps c).1, (ih _).2.trans (s.issue_keeps c).2⟩
    next => exact ⟨rfl, rfl⟩

theorem State.advance_cancelHold (s : State) : s.advance.sched.cancelHold = s.sched.cancelHold := by
  have list : s.listEmptyTest.sched.cancelHold = s.sched.cancelHold := by
    by_cases empty : s.sched.list = []
    · rw [State.listEmptyTest_empty empty]
      rfl
    · rw [State.listEmptyTest_still (.inl empty)]
  have halted (s : State) : s.haltedTest.sched.cancelHold = s.sched.cancelHold := by
    unfold State.haltedTest
    split <;> rfl
  have commit (s : State) : s.commitTest.sched.cancelHold = s.sched.cancelHold := by
    unfold State.commitTest
    split
    · rw [State.commitPoint_eq]
      rfl
    · rfl
  have request (s : State) : s.holdRequestTest.sched.cancelHold = s.sched.cancelHold := by
    unfold State.holdRequestTest
    split <;> rfl
  have hold (s : State) : s.holdTest.sched.cancelHold = s.sched.cancelHold := by
    unfold State.holdTest
    split
    · rw [State.issueHold_eq]
      rfl
    · rfl
  rw [State.advance, hold, request, commit, halted, list]

/-- R165, R175: with no commit and no drain in progress, an event's end changes the mode alone. -/
theorem State.advance_quiet (commit : s.mgmt.commit.state = .none) (stage : s.mgmt.part.stage = none)
    (unasked : s.port.holdReq = false) : ∃ m, s.advance = s.setMode m := by
  have list : s.listEmptyTest = s := State.listEmptyTest_still (.inr ⟨by simp [commit], fun ⟨_, list⟩ => by simp [stage] at list⟩)
  have after (u : State) (hu : ∃ m, u = s.setMode m) : u.commitTest.holdRequestTest.holdTest = u := by
    obtain ⟨m, rfl⟩ := hu
    rw [State.commitTest_still (by simp [State.setMode, commit]),
      State.holdRequestTest_stage (by simp [State.setMode, stage])]
    exact State.holdTest_waits (.inl unasked)
  have halted : ∃ m, s.haltedTest = s.setMode m := by
    unfold State.haltedTest
    split
    · exact ⟨.halted, rfl⟩
    · exact ⟨s.port.mode, rfl⟩
  rw [State.advance, list, after _ halted]
  exact halted

end

/-- Settles O17: the mode changes and the gate, each with its frame. -/
theorem settleFrame : Obligations.SettleFrame := by
  unfold Obligations.SettleFrame
  intro s
  have hold : s.settle.sched.cancelHold = s.sched.cancelHold := by
    rw [State.settle, (gate_keeps _ _).1, ← s.advance_cancelHold]
    rfl
  refine ⟨s.settle_pending, s.settle_now, s.settle_draws, s.settle_rst, s.settle_laneSignal, s.settle_txLane,
    s.settle_link, s.settle_adm, s.settle_orders, s.settle_snapshot, hold, s.settle_mgmt_queue, s.settle_mgmt_notices,
    s.settle_mgmt_staged, fun commit stage unasked => ?_⟩
  obtain ⟨m, quiet⟩ := State.advance_quiet commit stage unasked
  rw [State.settle, quiet]
  exact ⟨gate_mgmt _ _, gate_ren _ _, gate_array _ _, (gate_keeps _ _).2⟩

end Sys2Proof.Machine
end

section
/-! PROOFS. The active copies change at a commit point or at a reset (O59). -/

namespace Sys2Proof.Machine

/-- R158, R164: what a commit point reads of the management unit. -/
def Mgmt.tables (m : Mgmt) : Objects × Objects × Nat := (m.active, m.staged, m.status.epoch)

/-- R164: what a commit point writes there. -/
def Mgmt.copies (m : Mgmt) : Objects × Objects × CommitRecord × CommitStatus := (m.active, m.staged, m.commit, m.status)

/-- R164, R168: a commit point has come between the two. -/
structure Mgmt.Committed (m n : Mgmt) : Prop where
  active : n.active = m.staged
  staged : n.staged = m.staged
  commit : n.commit = { state := .none, mapChange := false, replyOwed := none }
  status : n.status =
    { lastResult := .ok, check := .none, checkIndex := 0, stagedDiffers := false, epoch := (m.status.epoch + 1) % 65536 }

/-- R158, R161, R164: the active copies stay, or a commit point has come. -/
def Mgmt.Copied (m n : Mgmt) : Prop := n.active = m.active ∨ m.Committed n

/-- R172: the active copies of a part that is held in reset or has just started. -/
def State.Restarts (t : State) : Prop :=
  t.mgmt.active = Objects.reset ∧ ∃ kind, t.InReset kind ∨ t.rst = none ∧ t.Started kind t.array t.now

section
variable {s t u : State} {m n l : Mgmt}

theorem Mgmt.active_of_tables (h : n.tables = m.tables) : n.active = m.active := congrArg Prod.fst h

theorem Mgmt.tables_of_copies (h : n.copies = m.copies) : n.tables = m.tables := by
  obtain ⟨active, staged, -, status⟩ : n.active = m.active ∧ n.staged = m.staged ∧ n.commit = m.commit ∧
    n.status = m.status := by simpa [Mgmt.copies] using h
  rw [Mgmt.tables, active, staged, status]
  rfl

/-- What comes before a commit point and keeps what it reads. -/
theorem Mgmt.Copied.after (h : m.Copied n) (keeps : m.tables = l.tables) : l.Copied n := by
  obtain ⟨active, staged, epoch⟩ : m.active = l.active ∧ m.staged = l.staged ∧ m.status.epoch = l.status.epoch := by
    simpa [Mgmt.tables] using keeps
  rcases h with same | point
  · exact .inl (same.trans active)
  · exact .inr ⟨point.active.trans staged, point.staged.trans staged, point.commit, epoch ▸ point.status⟩

/-- What comes after a commit point and keeps what it wrote. -/
theorem Mgmt.Copied.before (h : m.Copied n) (keeps : l.copies = n.copies) : m.Copied l := by
  obtain ⟨active, staged, commit, status⟩ : l.active = n.active ∧ l.staged = n.staged ∧ l.commit = n.commit ∧
    l.status = n.status := by simpa [Mgmt.copies] using keeps
  rcases h with same | point
  · exact .inl (active.trans same)
  · exact .inr ⟨active.trans point.active, staged.trans point.staged, commit.trans point.commit,
      status.trans point.status⟩

theorem Mgmt.copied_of_tables (h : n.tables = m.tables) : m.Copied n := .inl (Mgmt.active_of_tables h)

/-! ### the end of an event -/

theorem State.commitPoint_committed (s : State) : s.mgmt.Committed s.commitPoint.mgmt := by
  rw [State.commitPoint_eq]
  exact ⟨rfl, rfl, rfl, rfl⟩

theorem State.listEmptyTest_tables (s : State) : s.listEmptyTest.mgmt.tables = s.mgmt.tables := by
  by_cases empty : s.sched.list = []
  · rw [State.listEmptyTest_empty empty]
    rfl
  · rw [State.listEmptyTest_still (.inl empty)]

theorem State.listEmptyTest_copies (idle : s.mgmt.commit.state = .none) : s.listEmptyTest.mgmt.copies = s.mgmt.copies := by
  by_cases empty : s.sched.list = []
  · rw [State.listEmptyTest_empty empty, decide_eq_false (by simp [idle])]
    rfl
  · rw [State.listEmptyTest_still (.inl empty)]

theorem State.haltedTest_mgmt (s : State) : s.haltedTest.mgmt = s.mgmt := by
  unfold State.haltedTest
  split <;> rfl

theorem State.holdRequestTest_copies (s : State) : s.holdRequestTest.mgmt.copies = s.mgmt.copies := by
  unfold State.holdRequestTest
  split <;> rfl

theorem State.holdTest_copies (s : State) : s.holdTest.mgmt.copies = s.mgmt.copies := by
  unfold State.holdTest
  split
  · rw [State.issueHold_eq]
    rfl
  · rfl

/-- R164: an event's end brings one commit point at most. -/
theorem State.settle_copied (s : State) : s.mgmt.Copied s.settle.mgmt := by
  have commit (u : State) : u.mgmt.Copied u.commitTest.mgmt := by
    unfold State.commitTest
    split
    · exact .inr u.commitPoint_committed
    · exact .inl rfl
  have advance : s.mgmt.Copied s.advance.mgmt := by
    refine Mgmt.Copied.before ?_ (State.holdTest_copies _)
    refine Mgmt.Copied.before ?_ (State.holdRequestTest_copies _)
    refine (commit _).after ?_
    rw [State.haltedTest_mgmt, State.listEmptyTest_tables]
  rw [State.settle, gate_mgmt]
  exact advance

theorem State.settle_idle (idle : s.mgmt.commit.state = .none) : s.settle.mgmt.copies = s.mgmt.copies := by
  have none (u : State) (keeps : u.mgmt.copies = s.mgmt.copies) : u.commitTest = u := by
    have same : u.mgmt.commit = s.mgmt.commit := congrArg (fun x => x.2.2.1) keeps
    exact State.commitTest_still (by simp [same, idle])
  have list : s.listEmptyTest.haltedTest.mgmt.copies = s.mgmt.copies := by
    rw [State.haltedTest_mgmt, State.listEmptyTest_copies idle]
  have start : s.advance.startIdle.mgmt = s.advance.mgmt := rfl
  rw [State.settle, gate_mgmt, start, State.advance, none _ list, State.holdTest_copies, State.holdRequestTest_copies,
    list]

theorem Mgmt.Copied.settle (keeps : u.mgmt.tables = m.tables) : m.Copied u.settle.mgmt := u.settle_copied.after keeps

/-! ### a reset -/

theorem State.resetPart_restarts (s : State) : s.resetPart.Restarts := by
  obtain ⟨out, started⟩ := s.resetPart_started
  have array : s.resetPart.array = if s.startKind = .warm then s.array else [] := by
    unfold State.resetPart
    rw [s.inReset_beginReset.endReset_eq]
    show s.arrayAtReset s.startKind = _
    cases s.startKind <;> rfl
  have now : s.resetPart.now = s.now := by
    unfold State.resetPart
    rw [s.inReset_beginReset.endReset_eq]
    rfl
  have active : s.resetPart.mgmt.active = Objects.reset := by
    unfold State.resetPart
    rw [s.inReset_beginReset.endReset_eq]
    cases s.startKind <;> rfl
  exact ⟨active, s.startKind, .inr ⟨out, by rw [array, now]; exact started⟩⟩

/-- R130: a RESET-PART that waits is taken, or nothing happens. -/
theorem State.resetIfTaken_copied (h : m.Copied u.mgmt) : m.Copied u.resetIfTaken.mgmt ∨ u.resetIfTaken.Restarts := by
  unfold State.resetIfTaken
  split
  · exact .inr u.resetPart_restarts
  · exact .inl h

/-! ### the link controller -/

theorem State.report_copies (s : State) (r : Report) : (s.report r).mgmt.copies = s.mgmt.copies := by
  rw [State.report_frame]
  rfl

theorem State.askReplay_mgmt (s : State) : s.askReplay.mgmt = s.mgmt := by
  unfold State.askReplay
  split <;> rfl

theorem State.takeAckCredit_mgmt (s : State) (f : Frame) : (s.takeAckCredit f).mgmt = s.mgmt := by
  rw [State.takeAckCredit_frame]

theorem State.takeSequenced_active (s : State) (f : Frame) : (s.takeSequenced f).mgmt.active = s.mgmt.active := by
  have report (u : State) (r : Report) : (u.report r).mgmt.active = u.mgmt.active :=
    Mgmt.active_of_tables (Mgmt.tables_of_copies (u.report_copies r))
  unfold State.takeSequenced
  dsimp only
  split
  · split
    · unfold State.acceptFrame
      dsimp only
      split
      · rfl
      · rw [report]
        rfl
    · rw [State.askReplay_mgmt, report]
  · split
    · rw [State.askReplay_mgmt]
    · rfl

theorem State.loseSession_tables (s : State) : s.loseSession.mgmt.tables = s.mgmt.tables := by
  unfold State.loseSession
  dsimp only
  rw [Mgmt.tables_of_copies (State.report_copies _ _)]
  rfl

theorem State.holdExpires_copied (keeps : u.mgmt.tables = m.tables) : m.Copied u.holdExpires.mgmt := by
  unfold State.holdExpires
  dsimp only
  split
  · exact Mgmt.Copied.settle ((State.loseSession_tables _).trans keeps)
  · exact Mgmt.copied_of_tables keeps

theorem State.enterRecovery_copied (cause : RecoveryCause) (keeps : u.mgmt.tables = m.tables) :
    m.Copied (u.enterRecovery cause).mgmt ∨ (u.enterRecovery cause).Restarts := by
  have reported := (Mgmt.tables_of_copies (u.report_copies (.linkRecovery cause))).trans keeps
  unfold State.enterRecovery
  refine State.resetIfTaken_copied ?_
  dsimp only
  split
  · exact State.holdExpires_copied reported
  · exact Mgmt.copied_of_tables reported

theorem State.hostReplay_copied (n : Byte) (keeps : u.mgmt.tables = m.tables) :
    m.Copied (u.hostReplay n).mgmt ∨ (u.hostReplay n).Restarts := by
  unfold State.hostReplay
  split
  · exact .inl (Mgmt.copied_of_tables keeps)
  · exact State.enterRecovery_copied _ keeps

theorem State.ackExpires_copied (keeps : u.mgmt.tables = m.tables) : m.Copied u.ackExpires.mgmt ∨ u.ackExpires.Restarts := by
  unfold State.ackExpires
  dsimp only
  split
  · exact .inl (Mgmt.copied_of_tables keeps)
  · exact State.enterRecovery_copied _ keeps

theorem State.newSession_copied (credit : Byte) (keeps : u.mgmt.tables = m.tables) : m.Copied (u.newSession credit).mgmt := by
  have lost : m.Copied (if u.link.live then u.loseSession.settle else u).mgmt := by
    split
    · exact Mgmt.Copied.settle (u.loseSession_tables.trans keeps)
    · exact Mgmt.copied_of_tables keeps
  have opened (v : State) : (v.openSession credit).mgmt = v.mgmt := rfl
  rw [State.newSession, opened]
  exact lost

theorem State.hostTrain_copied (f : Frame) (s : State) : s.mgmt.Copied (s.hostTrain f).mgmt := by
  have train : (if s.link.state = .down then s.enterTraining else s).mgmt = s.mgmt := by split <;> rfl
  have keeps := congrArg Mgmt.tables train
  unfold State.hostTrain
  dsimp only
  generalize (if s.link.state = .down then s.enterTraining else s) = u at keeps ⊢
  split
  · split
    · unfold State.takeTrainUp
      split
      · exact Mgmt.copied_of_tables keeps
      · exact State.newSession_copied _ keeps
    · unfold State.takeTrain
      split
      · exact Mgmt.copied_of_tables keeps
      · exact State.newSession_copied _ keeps
  · exact Mgmt.copied_of_tables keeps

theorem Selects.copied (x : Selects s t) : s.mgmt.Copied t.mgmt := by
  cases x
  case final r p f _ _ _ =>
    refine Mgmt.Copied.settle ?_
    rw [State.releasePlace_frame]
    rfl
  all_goals exact .inl rfl

/-! ### requests -/

theorem State.takeRequest_copied (k : ReqKind) (body : List Byte) (keeps : u.mgmt.tables = m.tables) :
    m.Copied (u.takeRequest k body).mgmt := by
  unfold State.takeRequest
  split
  · rw [State.refuse, State.echoed_mgmt]
    exact Mgmt.copied_of_tables keeps
  · rw [State.admitRequest_frame]
    exact Mgmt.Copied.settle keeps

theorem State.takeCancel_copied (body : List Byte) (keeps : u.mgmt.tables = m.tables) : m.Copied (u.takeCancel body).mgmt := by
  have answer (res : CancelResult) : m.Copied (u.cancelReply body res).mgmt := by
    rw [State.cancelReply, State.echoed_mgmt]
    exact Mgmt.copied_of_tables keeps
  unfold State.takeCancel
  split
  · split
    · split
      · split
        · rw [State.acceptCancel_eq]
          exact Mgmt.Copied.settle keeps
        · exact answer _
      · exact answer _
    · exact answer _
  · exact answer _

theorem State.doCommit_copied (body : List Byte) (e : Echo) (keeps : u.mgmt.tables = m.tables) :
    m.Copied (u.doCommit body e).mgmt := by
  by_cases starting : u.mgmt.part.state = .starting
  · rw [State.doCommit_starting starting]
    exact Mgmt.copied_of_tables keeps
  · cases valid : validate u.mgmt.staged with
    | some x =>
      rw [State.doCommit_invalid starting valid]
      exact Mgmt.copied_of_tables keeps
    | none =>
      rw [State.doCommit_valid starting valid]
      by_cases atOnce : u.mgmt.part.state = .retained ∨ u.mgmt.staged.timing = u.mgmt.active.timing
      · rw [State.acceptCommit_atOnce atOnce]
        have point : m.Copied (u.setCommit { state := .none, mapChange := false, replyOwed := some (.owed e) }).commitPoint.mgmt :=
          Mgmt.Copied.after (.inr (State.commitPoint_committed _)) keeps
        exact point.before (State.settle_idle State.commitPoint_commit)
      · obtain ⟨unretained, differ⟩ := not_or.1 atOnce
        by_cases mode : u.mgmt.staged.timing.mapMode = u.mgmt.active.timing.mapMode
        · rw [State.acceptCommit_timing unretained differ mode]
          exact Mgmt.Copied.settle keeps
        · rw [State.acceptCommit_mapChange unretained mode]
          exact Mgmt.Copied.settle keeps

theorem State.doLeaveRetain_copied (body : List Byte) (e : Echo) (keeps : u.mgmt.tables = m.tables) :
    m.Copied (u.doLeaveRetain body e).mgmt := by
  have withdraw (v : State) : v.withdrawDrainHalt.mgmt.tables = v.mgmt.tables := by rw [State.withdrawDrainHalt_frame]; rfl
  unfold State.doLeaveRetain
  split
  · refine Mgmt.Copied.settle ?_
    rw [State.wake_frame]
    exact (withdraw u).trans keeps
  · refine Mgmt.Copied.settle ?_
    rw [State.endDrain_eq]
    exact keeps
  all_goals exact Mgmt.copied_of_tables keeps

/-- R158: a request that passes the tests and is executed. -/
theorem State.run_copied (row : Row) (body : List Byte) (e : Echo) (keeps : u.mgmt.tables = m.tables) :
    m.Copied (row.run u body e).mgmt ∨ (row.run u body e).Restarts := by
  cases row
  case resetPart =>
    simp only [Row.run, State.doResetPart]
    split
    · exact .inl (Mgmt.copied_of_tables keeps)
    · exact .inr u.resetPart_restarts
  all_goals left
  case get =>
    simp only [Row.run, State.doGet]
    split <;> exact Mgmt.copied_of_tables keeps
  case set =>
    have active := Mgmt.active_of_tables keeps
    simp only [Row.run, State.doSet]
    split <;> exact .inl active
  case discard =>
    have active := Mgmt.active_of_tables keeps
    exact .inl active
  case commit => exact State.doCommit_copied body e keeps
  case enterRetain =>
    simp only [Row.run, State.doEnterRetain]
    split
    · exact Mgmt.Copied.settle keeps
    all_goals exact Mgmt.copied_of_tables keeps
  case leaveRetain => exact State.doLeaveRetain_copied body e keeps
  case setNotice | lapseClear | clear | unknown => exact Mgmt.copied_of_tables keeps

/-! ### every command -/

theorem State.leaveIdleMode_tables (s : State) : s.leaveIdleMode.mgmt.tables = s.mgmt.tables := by
  rw [State.leaveIdleMode_frame]
  rfl

theorem State.completeEntry_mgmt (s : State) (b : BankNo) (e : Entry) : (s.completeEntry b e).mgmt = s.mgmt := by
  simp [State.completeEntry, State.removeEntry, State.setList]

theorem PinEffect.copied {c : Instr} (x : PinEffect s c t) : s.mgmt.Copied t.mgmt ∨ t.Restarts := by
  cases x
  case assert running => exact .inr ⟨rfl, s.startKind, .inl s.inReset_beginReset⟩
  case release kind reset =>
    rw [State.endReset_frame]
    exact .inl (.inl rfl)
  case recovers => exact State.enterRecovery_copied _ rfl
  all_goals exact .inl (.inl rfl)

theorem Effect.copied {c : Instr} (x : Effect s c t) : s.mgmt.Copied t.mgmt ∨ t.Restarts := by
  cases x
  case badCheck | markTimer | offerTimer | stateTimer | manage => exact .inl (.inl rfl)
  case badCheckUp => exact .inl (.inl (congrArg Mgmt.active (s.count 8).askReplay_mgmt :))
  case ackRange => exact State.enterRecovery_copied _ rfl
  case ackCredit f _ _ => exact .inl (.inl (congrArg Mgmt.active (s.takeAckCredit_mgmt f)))
  case sequenced f _ _ =>
    exact .inl (.inl ((State.takeSequenced_active _ f).trans (congrArg Mgmt.active (s.takeAckCredit_mgmt f))))
  case hostReplay f n _ _ => exact State.hostReplay_copied n (congrArg Mgmt.tables (s.takeAckCredit_mgmt f))
  case hostTrain f => exact .inl (s.hostTrain_copied f)
  case ackTimer => exact State.ackExpires_copied rfl
  case holdTimer => exact .inl (State.holdExpires_copied rfl)
  case transmit u x => exact State.resetIfTaken_copied x.copied
  case admission => exact .inl (State.takeRequest_copied _ _ rfl)
  case cancel => exact .inl (State.takeCancel_copied _ rfl)
  case manageBusy body =>
    have active : (s.busyReply body).mgmt.active = s.mgmt.active := by simp [State.busyReply]
    exact .inl (.inl active)
  case fails body rest st _ _ =>
    have active : (s.takenFor body rest).mgmt.active = s.mgmt.active := by rw [State.takenFor_mgmt]
    exact .inl (.inl active)
  case runs =>
    refine State.run_copied _ _ _ ?_
    rw [State.takenFor_mgmt]
    rfl
  all_goals left
  case tInit | tExit => exact Mgmt.Copied.settle (State.leaveIdleMode_tables _)
  case completes =>
    refine Mgmt.Copied.settle ?_
    rw [State.completeEntry_mgmt, State.accessEffect_frame]
    rfl
  case tick =>
    refine Mgmt.Copied.settle ?_
    have start (v : State) : v.startTick.mgmt = v.mgmt := rfl
    rw [start, State.tickRecords_frame]
    rfl
  all_goals exact Mgmt.Copied.settle rfl

end

/-- Settles O59: each command, by whether it ends in a reset. -/
theorem activeCopiesChangeAtCommitPoints : Obligations.ActiveCopiesChangeAtCommitPoints := by
  unfold Obligations.ActiveCopiesChangeAtCommitPoints
  intro c s t h
  have outcome : s.mgmt.Copied t.mgmt ∨ t.Restarts := by
    rcases exec_cases h with rfl | pin | ⟨-, effect⟩
    · exact .inl (.inl rfl)
    · exact pin.copied
    · exact effect.copied
  rcases outcome with (same | point) | reset
  · exact .inl same
  · exact .inr (.inl ⟨point.active, point.staged, point.commit, point.status⟩)
  · exact .inr (.inr reset)

end Sys2Proof.Machine
end

section
/-! PROOFS. The issue gate (O14): its choice, its end, the order of the wants, and the permissions. -/

namespace Sys2Proof.Machine

/-! ### ranks (R30) -/

theorem rankLt_iff {a b : List Nat} : rankLt a b = true ↔ a < b := by
  induction a generalizing b with
  | nil => cases b <;> simp [rankLt]
  | cons x xs ih =>
    cases b with
    | nil => simp [rankLt]
    | cons y ys => simp [rankLt, List.cons_lt_cons_iff, ih]

theorem rankLt_eq_false {a b : List Nat} : rankLt a b = false ↔ b ≤ a := by
  rw [← Bool.not_eq_true, rankLt_iff, not_lt]

theorem best_eq_none {l : List Cand} : best l = none ↔ l = [] := by
  cases l with
  | nil => simp [best]
  | cons c cs =>
    unfold best
    split
    · split <;> simp
    · simp

/-- The first-ranked of some candidates has none before it. -/
theorem best_first {l : List Cand} {c d : Cand} (h : best l = some c) (mem : d ∈ l) : rankLt d.rank c.rank = false := by
  rw [rankLt_eq_false]
  induction l generalizing c with
  | nil => cases mem
  | cons a l ih =>
    unfold best at h
    split at h
    next f found =>
      split at h
      next ahead =>
        cases h
        rcases List.mem_cons.1 mem with rfl | mem
        · exact (rankLt_iff.1 ahead).le
        · exact ih found mem
      next behind =>
        cases h
        rcases List.mem_cons.1 mem with rfl | mem
        · exact le_rfl
        · exact (rankLt_eq_false.1 (by simpa using behind)).trans (ih found mem)
    next none =>
      cases h
      rw [best_eq_none] at none
      subst none
      simp_all

/-! ### the end of the gate (R30) -/

section
variable {s : State}

/-- The states of a bank in which an issue may be permitted (R28). -/
def BankState.issuable (st : BankState) : Bool := st = .closed || st = .opened

/-- The number of banks on which an issue may be permitted. -/
def State.issuable (s : State) : Nat := (List.finRange 16).countP fun b => (s.bank b).state.issuable

theorem State.issuable_le (s : State) : s.issuable ≤ 16 := by
  unfold State.issuable
  exact List.countP_le_length.trans (List.length_finRange).le

/-- R28: an issue takes its bank out of the states in which one is permitted. -/
theorem State.issuable_issue {c : Cand} (h : s.choice = some c) : (s.issue c).issuable < s.issuable := by
  obtain ⟨after, others⟩ := s.issue_bank c
  have counts := List.countP_update (List.nodup_finRange 16) (List.mem_finRange c.bank)
    (f := fun b => (s.bank b).state.issuable) (g := fun b => ((s.issue c).bank b).state.issuable)
    fun b other => by rw [others b other]
  have old : (s.bank c.bank).state.issuable = true := by
    rcases State.permitted_state (State.choice_permitted h).2 with state | state <;> rw [state] <;> rfl
  have new : ((s.issue c).bank c.bank).state.issuable = false := by
    rw [after]
    cases c.op <;> rfl
  simp only [old, new, if_true, Bool.false_eq_true, if_false] at counts
  have fewer : (s.issue c).issuable + 1 = s.issuable := counts
  omega

/-- R30: with as many issues as there are banks for one, the gate comes to its end. -/
theorem gate_issues {n : Nat} (fuel : s.issuable ≤ n) : (gate n s).choice = none ∧ IssuesTo s (gate n s) := by
  induction n generalizing s with
  | zero =>
    have none : s.choice = none := by
      cases h : s.choice with
      | none => rfl
      | some c =>
        have := State.issuable_issue h
        omega
    exact ⟨none, .done none⟩
  | succ n ih =>
    unfold gate
    split
    next c h =>
      have less := State.issuable_issue h
      obtain ⟨none, issues⟩ := ih (s := s.issue c) (by omega)
      exact ⟨none, .issue h issues⟩
    next none => exact ⟨none, .done none⟩

end

/-! ### the order of the wants (R29, R30) -/

section
variable {s : State}

/-- R30: what a want's rank is compared by within its class. -/
def State.wantTail (s : State) (b : BankNo) (w : Want) : List Nat :=
  match w with
  | .sched (.openFor e) | .sched (.access e) | .sched (.conflictClose e) => [0, s.place e]
  | .sched .closeAfter => [1, b.val]
  | .sched .idleClose => [0, b.val]
  | .renewal _ =>
    let d := (s.ren.records.get b).debt
    [if s.urgent b then 0 else if 1 ≤ d then 0 else 1, debtRank d, b.val]
  | .haltClose => [2, b.val]

/-- The candidate of a want. -/
def State.wantCand (s : State) (b : BankNo) (w : Want) : Cand :=
  { bank := b, op := w.op, rank := s.wantClass b w :: s.wantTail b w }

theorem State.schedCand_eq {b : BankNo} {w : SchedWant} (h : s.schedWant b = some w) :
    s.schedCand b = some (s.wantCand b (.sched w)) := by
  rw [State.schedCand, h]
  cases w with
  | access e => simp [State.wantCand, State.wantClass, State.wantTail, Want.serves, Want.op, State.entryRank, Entry.classFor]
  | _ => rfl

theorem State.urgent_of_renWant {b : BankNo} {w : RenWant} (h : s.renWant b = some w) :
    s.urgent b = decide ((s.timing.urgentLevel : Int) ≤ (s.ren.records.get b).debt) := by
  have exempt : (s.ren.records.get b).exempt = false := by
    by_contra exempt
    have exempt : (s.ren.records.get b).exempt = true := by simpa using exempt
    simp [State.renWant, exempt] at h
  simp [State.urgent, exempt]

theorem State.renCand_eq {b : BankNo} {w : RenWant} (h : s.renWant b = some w) :
    s.renCand b = some (s.wantCand b (.renewal w)) := by
  rw [State.renCand, h]
  refine congrArg some ?_
  have serves : (Want.renewal w).serves = none := rfl
  simp only [State.wantCand, State.wantClass, State.wantTail, serves, State.urgent_of_renWant h, decide_eq_true_eq]
  by_cases urgent : (s.timing.urgentLevel : Int) ≤ (s.ren.records.get b).debt
  · simp only [if_pos urgent]
    cases w <;> rfl
  · by_cases owed : 1 ≤ (s.ren.records.get b).debt
    · simp only [if_neg urgent, if_pos owed]
      cases w <;> rfl
    · simp only [if_neg urgent, if_neg owed]
      cases w <;> rfl

theorem State.haltCand_eq {b : BankNo} (h : s.Presents b .haltClose) : s.haltCand b = some (s.wantCand b .haltClose) :=
  if_pos (by simpa [State.Presents] using h)

theorem State.mem_cands {c : Cand} : c ∈ s.cands ↔ ∃ b w, s.Presents b w ∧ c = s.wantCand b w := by
  simp only [State.cands, List.mem_flatMap, List.mem_finRange, true_and, List.mem_append, Option.mem_toList]
  constructor
  · rintro ⟨b, (sched | ren) | halt⟩
    · obtain ⟨w, want, -⟩ := Option.map_eq_some_iff.1 sched
      exact ⟨b, .sched w, want, Option.some.inj (sched.symm.trans (State.schedCand_eq want))⟩
    · obtain ⟨w, want, -⟩ := Option.map_eq_some_iff.1 ren
      exact ⟨b, .renewal w, want, Option.some.inj (ren.symm.trans (State.renCand_eq want))⟩
    · have want : s.Presents b .haltClose := by
        unfold State.haltCand at halt
        split at halt
        next mode => simpa [State.Presents] using mode
        next => cases halt
      exact ⟨b, .haltClose, want, Option.some.inj (halt.symm.trans (State.haltCand_eq want))⟩
  · rintro ⟨b, w, want, rfl⟩
    refine ⟨b, ?_⟩
    cases w with
    | sched w => exact .inl (.inl (State.schedCand_eq want))
    | renewal w => exact .inl (.inr (State.renCand_eq want))
    | haltClose => exact .inr (State.haltCand_eq want)

/-- R30: an older entry has the lower place. -/
theorem State.place_lt (sorted : s.sched.list.Pairwise fun x y => x.id < y.id) {d e : Entry} (memD : d ∈ s.sched.list)
    (memE : e ∈ s.sched.list) : s.place d < s.place e ↔ d.id < e.id := by
  have ahead {x y : Entry} (memX : x ∈ s.sched.list) (memY : y ∈ s.sched.list) (below : x.id < y.id) :
      s.place x < s.place y := by
    obtain ⟨older, younger, split⟩ := List.append_of_mem memY
    have place : s.place y = older.length := by rw [State.place, split, olderThan_split (split ▸ sorted)]
    have mem : x ∈ older := by
      have := (mem_olderThan sorted memY).2 ⟨memX, below⟩
      rwa [split, olderThan_split (split ▸ sorted)] at this
    obtain ⟨oldest, between, rfl⟩ := List.append_of_mem mem
    have split' : s.sched.list = oldest ++ x :: (between ++ y :: younger) := by rw [split]; simp
    have placeX : s.place x = oldest.length := by rw [State.place, split', olderThan_split (split' ▸ sorted)]
    rw [place, placeX]
    simp
  refine ⟨fun less => ?_, ahead memD memE⟩
  by_contra notBelow
  rcases Nat.lt_or_eq_of_le (Nat.le_of_not_lt notBelow) with above | same
  · have := ahead memE memD above
    omega
  · have same := eq_of_id_eq sorted memD memE same.symm
    rw [same] at less
    omega

/-- R29, R30: the three shapes of a want: one that serves an entry, a renewal, or another close; with its class and what it
is compared by within it. -/
inductive State.Shape (s : State) (b : BankNo) (w : Want) : Prop
  | serves (e : Entry) : w.serves = some e → e ∈ s.sched.list → w.kindOrder = 0 → 2 ≤ s.wantClass b w →
      s.wantClass b w ≤ 5 → s.wantTail b w = [0, s.place e] → State.Shape s b w
  | renewal (r : RenWant) : w = .renewal r → w.kindOrder = 1 →
      s.wantClass b w = 1 ∨ s.wantClass b w = 6 ∨ s.wantClass b w = 7 →
      s.wantTail b w = [if s.wantClass b w = 7 then 1 else 0, debtRank (s.ren.records.get b).debt, b.val] → State.Shape s b w
  | other : w.serves = none → (∀ r, w ≠ .renewal r) →
      s.wantClass b w = 5 ∧ 1 ≤ w.kindOrder ∨ s.wantClass b w = 7 ∧ w.kindOrder = 0 →
      s.wantTail b w = [w.kindOrder, b.val] → State.Shape s b w

theorem State.wantClass_serves {b : BankNo} {w : Want} {e : Entry} (h : w.serves = some e) :
    2 ≤ s.wantClass b w ∧ s.wantClass b w ≤ 5 := by
  simp only [State.wantClass, h]
  split
  · omega
  · split
    · omega
    · split <;> omega

theorem State.Presents.shape {b : BankNo} {w : Want} (h : s.Presents b w) : s.Shape b w := by
  cases w with
  | sched w =>
    have listed {e : Entry} (serves : (Want.sched w).serves = some e) : e ∈ s.sched.list :=
      (State.mem_readyFor.1 (State.schedWant_entry h serves)).1
    cases w with
    | openFor e | access e | conflictClose e =>
      exact .serves e rfl (listed rfl) rfl (State.wantClass_serves rfl).1 (State.wantClass_serves rfl).2 rfl
    | closeAfter => exact .other rfl (fun _ no => by cases no) (.inl ⟨rfl, le_rfl⟩) rfl
    | idleClose => exact .other rfl (fun _ no => by cases no) (.inr ⟨rfl, rfl⟩) rfl
  | renewal r =>
    have serves : (Want.renewal r).serves = none := rfl
    have calm : s.urgent b = decide ((s.timing.urgentLevel : Int) ≤ (s.ren.records.get b).debt) := State.urgent_of_renWant h
    have class_eq : s.wantClass b (.renewal r) = if (s.timing.urgentLevel : Int) ≤ (s.ren.records.get b).debt then 1
      else if 1 ≤ (s.ren.records.get b).debt then 6 else 7 := rfl
    refine .renewal r rfl rfl ?_ ?_
    · rw [class_eq]
      split
      · exact .inl rfl
      · split
        · exact .inr (.inl rfl)
        · exact .inr (.inr rfl)
    · rw [class_eq]
      simp only [State.wantTail, calm, decide_eq_true_eq]
      split
      · rfl
      · split <;> rfl
  | haltClose => exact .other rfl (fun _ no => by cases no) (.inl ⟨rfl, by decide⟩) rfl

theorem rankLt_cons {x y : Nat} {xs ys : List Nat} :
    rankLt (x :: xs) (y :: ys) = true ↔ x < y ∨ x = y ∧ rankLt xs ys = true := by
  simp [rankLt]

theorem State.firstOfKind_serves {a b : BankNo} {v w : Want} {d e : Entry} (hd : v.serves = some d) (he : w.serves = some e) :
    s.firstOfKind a v b w ↔ d.id < e.id := by
  unfold State.firstOfKind
  split
  next => cases hd
  next => rw [hd, he]

theorem State.firstOfKind_other {a b : BankNo} {v w : Want} (none : v.serves = none) (other : ∀ r, v ≠ .renewal r) :
    s.firstOfKind a v b w ↔ a < b := by
  unfold State.firstOfKind
  split
  next r _ => exact absurd rfl (other r)
  next => rw [none]

/-- R30: the candidates rank as the wants do. -/
theorem State.rankLt_wantCand (sorted : s.sched.list.Pairwise fun x y => x.id < y.id)
    (debts : ∀ b, (s.ren.records.get b).debt ≤ 8) {a b : BankNo} {v w : Want} (hv : s.Presents a v) (hw : s.Presents b w) :
    rankLt (s.wantCand a v).rank (s.wantCand b w).rank = true ↔ s.RanksAhead a v b w := by
  have head : rankLt (s.wantCand a v).rank (s.wantCand b w).rank = true ↔ s.wantClass a v < s.wantClass b w ∨
      s.wantClass a v = s.wantClass b w ∧ rankLt (s.wantTail a v) (s.wantTail b w) = true := rankLt_cons
  rw [head, State.RanksAhead]
  refine or_congr_right (and_congr_right fun same => ?_)
  cases hv.shape with
  | serves d hd memD kind low high tail =>
    cases hw.shape with
    | serves e he memE kind' low' high' tail' =>
      rw [tail, tail', kind, kind', State.firstOfKind_serves hd he]
      simp [rankLt, s.place_lt sorted memD memE]
    | renewal r hr kind' classes tail' => omega
    | other none other classes tail' =>
      rw [tail, tail', kind]
      have : 0 < w.kindOrder := by omega
      simp [rankLt, this]
  | renewal r hr kind classes tail =>
    cases hw.shape with
    | serves e he memE kind' low' high' tail' => omega
    | renewal r' hr' kind' classes' tail' =>
      have first : s.firstOfKind a v b w ↔ (s.ren.records.get b).debt < (s.ren.records.get a).debt ∨
          (s.ren.records.get a).debt = (s.ren.records.get b).debt ∧ a < b := by rw [hr, hr']; rfl
      have debtA := debts a
      have debtB := debts b
      rw [tail, tail', kind, kind', first, same]
      have ranks : debtRank (s.ren.records.get a).debt < debtRank (s.ren.records.get b).debt ↔
          (s.ren.records.get b).debt < (s.ren.records.get a).debt := by
        unfold debtRank
        omega
      have ties : debtRank (s.ren.records.get a).debt = debtRank (s.ren.records.get b).debt ↔
          (s.ren.records.get a).debt = (s.ren.records.get b).debt := by
        unfold debtRank
        omega
      simp [rankLt, ranks, ties]
    | other none other classes' tail' =>
      have idle : s.wantClass a v = 7 ∧ w.kindOrder = 0 := by omega
      rw [tail, tail', kind, idle.1, idle.2]
      simp [rankLt]
  | other none other classes tail =>
    cases hw.shape with
    | serves e he memE kind' low' high' tail' =>
      have : 0 < v.kindOrder := by omega
      rw [tail, tail', kind']
      simp [rankLt, this.ne']
    | renewal r' hr' kind' classes' tail' =>
      have idle : s.wantClass b w = 7 ∧ v.kindOrder = 0 := by omega
      rw [tail, tail', kind', idle.1, idle.2]
      simp [rankLt]
    | other none' other' classes' tail' =>
      rw [tail, tail', State.firstOfKind_other none other]
      simp [rankLt]

end

/-! ### permissions (R28) -/

section
variable {s : State} {b : BankNo} {e : Entry} {rank : List Nat}

theorem State.permitted_open : s.permitted { bank := b, op := .openFor e, rank := rank } = true ↔
    s.port.mode = .run ∧ (s.bank b).state = .closed ∧ s.ooMet = true ∧ s.quadMet = true := by
  simp [State.permitted, State.openPermitted, and_assoc]

theorem State.accessing_none : s.banksIn .accessing = 0 ↔ ∀ x, (s.bank x).state ≠ .accessing := by
  simp [State.banksIn, Table.count_eq_zero, State.bank]

theorem State.accessPermittedButTurn_iff : s.accessPermittedButTurn b e = true ↔ s.port.mode = .run ∧
    (s.bank b).state = .opened ∧ (s.bank b).openPage = some e.page ∧ (∀ x, (s.bank x).state ≠ .accessing) ∧
    (e.kind = .read → s.mayReserve e = true) := by
  simp [State.accessPermittedButTurn, and_assoc, ← State.accessing_none, imp_iff_not_or]

/-- R14: the interval since the last access has passed, where there was one. -/
theorem State.turnMet_exists (d : Direction) : s.turnMet d = true ↔ s.port.direction = .noDir ∨ s.port.direction = d ∨
    s.port.lastAccess = none ∨ ∃ t, s.port.lastAccess = some t ∧ t + s.timing.tTurn ≤ s.now := by
  rw [State.turnMet_iff]
  cases s.port.lastAccess <;> simp

theorem State.turnHeld_access : s.turnHeld { bank := b, op := .access e, rank := rank } = true ↔
    s.accessPermittedButTurn b e = true ∧ ¬s.turnMet (s.accessKind e).startDir = true := by
  simp [State.turnHeld]

theorem State.permitted_access : s.permitted { bank := b, op := .access e, rank := rank } = true ↔
    s.accessPermittedButTurn b e = true ∧ s.turnMet (s.accessKind e).startDir = true ∧
      ∀ h ∈ s.cands, s.turnHeld h = true → rankLt h.rank rank = false := by
  simp [State.permitted, and_assoc]

theorem State.permitted_close : s.permitted { bank := b, op := .close, rank := rank } = true ↔
    (s.port.mode = .run ∨ s.port.mode = .halting) ∧ (s.bank b).state = .opened ∧ (s.bank b).dwellMet = true ∧
      (s.bank b).recoveryMet = true := by
  simp [State.permitted, State.closePermitted, and_assoc]

theorem State.permitted_renew : s.permitted { bank := b, op := .renew, rank := rank } = true ↔
    (s.port.mode = .run ∨ s.port.mode = .halting ∨ s.port.mode = .halted ∧ s.port.holdReq = false) ∧
      (s.bank b).state = .closed ∧ s.banksIn .renewing < 2 := by
  simp [State.permitted, State.renewPermitted, and_assoc, or_assoc]

theorem State.startIdle_get (b : BankNo) : s.startIdle.sched.idle.get b =
    if s.sched.idle.get b = .stopped ∧ (s.bank b).state = .opened ∧ (∀ e ∈ s.sched.list, e.bank ≠ b) ∧
      s.timing.idleClose ≠ 0 then .running (s.now + s.timing.idleClose * 20)
    else s.sched.idle.get b := by
  refine (Table.get_mapIdx _ _ _).trans ?_
  have targeted : s.targeted b = false ↔ ∀ e ∈ s.sched.list, e.bank ≠ b := by simp [State.targeted]
  simp only [State.idleOf, targeted]

end

/-- Settles O14: the gate's choice and its end, the idle-close timers, the order of the wants, and each permission. -/
theorem issueGateChoosesBest : Obligations.IssueGateChoosesBest := by
  unfold Obligations.IssueGateChoosesBest
  refine ⟨fun s => ?_, fun s => ⟨_, rfl, fun b => State.startIdle_get b⟩, fun s sorted debts =>
    ⟨s.wantCand, fun b w => ⟨rfl, rfl⟩, fun c => State.mem_cands, fun a v b w hv hw =>
      State.rankLt_wantCand sorted debts hv hw⟩, fun s b e rank history => ⟨?_, ?_, State.permitted_close, State.permitted_renew⟩⟩
  · obtain ⟨none, issues⟩ := gate_issues (n := 16) s.advance.startIdle.issuable_le
    refine ⟨none, issues, fun c chosen => ?_, fun none c mem => ?_⟩
    · obtain ⟨mem, permitted⟩ := State.choice_permitted chosen
      exact ⟨mem, permitted, fun d inCands may => best_first chosen (List.mem_filter.2 ⟨inCands, may⟩)⟩
    · have empty := best_eq_none.1 none
      by_contra may
      have : c ∈ s.cands.filter s.permitted := List.mem_filter.2 ⟨mem, by simpa using may⟩
      rw [empty] at this
      cases this
  · rw [State.permitted_open, State.ooMet_iff, State.quadMet_iff]
    have full : 4 ≤ s.port.history.length ↔ s.port.history.length = 4 := by omega
    rw [full]
  · intro allowed start turned
    have starts : (s.accessKind e).startDir = start := by
      simp only [start]
      cases s.accessKind e <;> rfl
    have turns : s.turnMet (s.accessKind e).startDir = true ↔ turned := by
      rw [starts, State.turnMet_exists]
    refine ⟨?_, fun h held => ?_, ?_⟩
    · rw [State.turnHeld_access, State.accessPermittedButTurn_iff, turns]
    · unfold State.turnHeld at held
      split at held
      next x op => exact ⟨x, op⟩
      next => cases held
    · rw [State.permitted_access, State.accessPermittedButTurn_iff, turns]

end Sys2Proof.Machine
end

section
/-! PROOFS. The completion of a read (O9), and of a write or merge (O10). -/

namespace Sys2Proof.Machine

/-! ### chunks under disturbances (R26) -/

section
variable {s : State} {e : Entry} {k : Nat} {ups : List Upset} {c : Chunk}

theorem Chunk.found_nil (c : Chunk) (k : Nat) : c.found [] k = c := rfl

theorem Chunk.found_cons (c : Chunk) (u : Upset) (ups : List Upset) (k : Nat) :
    c.found (u :: ups) k = Chunk.found (if u.chunk = k then c.disturb u.kind else c) ups k := by
  by_cases named : u.chunk = k
  · simp [Chunk.found, named]
  · simp [Chunk.found, named]

theorem Chunk.found_unnamed (none : ¬(ups.any fun u => u.chunk = k) = true) : c.found ups k = c := by
  have empty : ups.filter (fun u => u.chunk = k) = [] := by simpa [List.filter_eq_nil_iff] using none
  rw [Chunk.found, empty]
  rfl

/-! ### the block of an entry (R1) -/

/-- The stored chunk number of a chunk of an entry's block. -/
def Entry.key (e : Entry) (k : Nat) : Nat := chunkKey e.bank e.page (e.first + k)

theorem Entry.key_inj {j : Nat} : e.key j = e.key k ↔ j = k := by
  unfold Entry.key chunkKey
  omega

theorem Entry.mem_keys {x : Nat} : x ∈ e.keys ↔ ∃ k < e.size.chunks, e.key k = x := by
  simp [Entry.keys, Entry.key]

theorem Store.find_put_eq (m : Store) (j k : Nat) (c : Chunk) : (m.put k c).find j = if j = k then some c else m.find j := by
  split
  next same => rw [same, Store.find_put_same]
  next other => exact Store.find_put_ne _ _ other

/-- R26: what a disturbance leaves stored. -/
theorem State.disturbChunk_find (s : State) (e : Entry) (k : Nat) (ups : List Upset) (x : Nat) :
    (s.disturbChunk e k ups).array.find x =
      if x = e.key k then (s.array.find x).map fun c => c.found ups k else s.array.find x := by
  by_cases own : x = e.key k
  · rw [if_pos own, own]
    unfold State.disturbChunk
    split
    next c stored =>
      have stored : s.array.find (e.key k) = some c := stored
      rw [stored]
      split
      next named => exact Store.find_put_same _ _ _
      next unnamed => rw [stored, Option.map_some, Chunk.found_unnamed unnamed]
    next absent =>
      have absent : s.array.find (e.key k) = none := absent
      rw [absent]
      rfl
  · rw [if_neg own]
    unfold State.disturbChunk
    split
    · split
      · exact Store.find_put_ne _ _ own
      · rfl
    · rfl

/-! ### the chunks of a read (R26) -/

/-- R26: the fault report of a chunk that is read. -/
def readFault (e : Entry) (kc : Nat × Chunk) : Option Report :=
  match kc.2.result with
  | .corrected => some (.correctedData e.bank e.page (e.first + kc.1))
  | .uncorrectable => some (.uncorrectableData e.bank e.page (e.first + kc.1) e.requester e.tag)
  | .clean | .poisoned => none

/-- The chunk that a read finds. -/
def State.chunkRead (s : State) (e : Entry) (ups : List Upset) (k : Nat) : Chunk :=
  ((s.disturbChunk e k ups).orFree ((s.disturbChunk e k ups).guaranteed e.bank e.page (e.first + k))).1

theorem State.readChunk_value (s : State) (e : Entry) (ups : List Upset) (k : Nat) :
    (s.readChunk e ups k).1 = ((s.chunkRead e ups k).checked, (s.chunkRead e ups k).result) := rfl

theorem State.readChunk_array (s : State) (e : Entry) (ups : List Upset) (k : Nat) :
    (s.readChunk e ups k).2.array = (s.disturbChunk e k ups).array := by
  unfold State.readChunk
  dsimp only
  split <;> (try rw [State.report_frame]) <;> rw [State.orFree_frame]

theorem State.readChunk_mgmt (s : State) (e : Entry) (ups : List Upset) (k : Nat) :
    (s.readChunk e ups k).2.mgmt = ((readFault e (k, s.chunkRead e ups k)).toList.foldl State.report s).mgmt := by
  unfold State.readChunk readFault State.chunkRead
  dsimp only
  generalize found : (s.disturbChunk e k ups).orFree
    ((s.disturbChunk e k ups).guaranteed e.bank e.page (e.first + k)) = x
  have same : x.2.mgmt = s.mgmt := by
    rw [← found, State.orFree_frame, State.disturbChunk_frame]
  cases x.1.result with
  | clean | poisoned => exact same
  | corrected | uncorrectable => exact State.report_mgmt_congr same _

/-- R26: a guaranteed chunk is found as it stands under the disturbances. -/
theorem State.chunkRead_eq (stored : s.array.find (e.key k) = some c) (kept : s.exemptBank e.bank = false) :
    s.chunkRead e ups k = c.found ups k := by
  have exempt : (s.disturbChunk e k ups).exemptBank e.bank = false := by
    rw [State.disturbChunk_frame]
    exact kept
  have finds : (s.disturbChunk e k ups).guaranteed e.bank e.page (e.first + k) = some (c.found ups k) := by
    have := s.disturbChunk_find e k ups (e.key k)
    rw [if_pos rfl, stored] at this
    rw [State.guaranteed, exempt]
    exact this
  rw [State.chunkRead, finds]
  rfl

/-- R26: the chunks `kcs` of a read in order, with their positions, and the state that the read leaves. -/
structure State.Reads (s : State) (e : Entry) (ups : List Upset) (ks : List Nat) (kcs : List (Nat × Chunk)) (t : State) :
    Prop where
  positions : kcs.map Prod.fst = ks
  found : ∀ kc ∈ kcs, ∀ c, s.array.find (e.key kc.1) = some c → s.exemptBank e.bank = false → kc.2 = c.found ups kc.1
  outside : ∀ x, (∀ k ∈ ks, x ≠ e.key k) → t.array.find x = s.array.find x
  inside : ∀ k ∈ ks, t.array.find (e.key k) = (s.array.find (e.key k)).map fun c => c.found ups k
  mgmt : t.mgmt = ((kcs.filterMap (readFault e)).foldl State.report s).mgmt

theorem State.readChunks_reads (s : State) (e : Entry) (ups : List Upset) {ks : List Nat} (apart : ks.Nodup) :
    ∃ kcs, s.Reads e ups ks kcs (s.readChunks e ups ks).2 ∧
      (s.readChunks e ups ks).1 = kcs.map fun kc => (kc.2.checked, kc.2.result) := by
  induction ks generalizing s with
  | nil => exact ⟨[], ⟨rfl, by simp, fun _ _ => rfl, by simp, rfl⟩, rfl⟩
  | cons k ks ih =>
    obtain ⟨new, apart⟩ := List.nodup_cons.1 apart
    obtain ⟨kcs, reads, values⟩ := ih (s.readChunk e ups k).2 apart
    have elsewhere {x : Nat} (other : x ≠ e.key k) : (s.readChunk e ups k).2.array.find x = s.array.find x := by
      rw [State.readChunk_array, State.disturbChunk_find, if_neg other]
    have exempt : (s.readChunk e ups k).2.exemptBank e.bank = s.exemptBank e.bank := by rw [State.readChunk_frame]; rfl
    have ne {j : Nat} (mem : j ∈ ks) : e.key j ≠ e.key k := fun same => new (Entry.key_inj.1 same ▸ mem)
    refine ⟨(k, s.chunkRead e ups k) :: kcs, ⟨?_, ?_, fun x out => ?_, ?_, ?_⟩, ?_⟩
    · rw [List.map_cons, reads.positions]
    · rintro kc mem c stored kept
      rcases List.mem_cons.1 mem with rfl | mem
      · exact State.chunkRead_eq stored kept
      · have listed : kc.1 ∈ ks := reads.positions ▸ List.mem_map_of_mem mem
        exact reads.found kc mem c ((elsewhere (ne listed)).trans stored) (exempt.trans kept)
    · exact (reads.outside x fun j mem => out j (List.mem_cons_of_mem _ mem)).trans (elsewhere (out k (by simp)))
    · rintro j mem
      rcases List.mem_cons.1 mem with rfl | mem
      · refine (reads.outside _ fun i mem same => ne mem same.symm).trans ?_
        rw [State.readChunk_array, State.disturbChunk_find, if_pos rfl]
      · refine (reads.inside j mem).trans ?_
        rw [elsewhere (ne mem)]
    · refine reads.mgmt.trans ?_
      refine (State.foldl_report_mgmt_congr (State.readChunk_mgmt s e ups k) _).trans ?_
      rw [← List.foldl_append]
      congr 2
      cases fault : readFault e (k, s.chunkRead e ups k) <;> simp [fault]
    · unfold State.readChunks
      dsimp only
      rw [values, State.readChunk_value, List.map_cons]

end

/-! ### ACCESS_COMPLETION of a read (R114) -/

section
variable {s : State} {b : BankNo} {kind : AccessKind} {d : Nat} {e : Entry} {ups : List Upset}

/-- The state in which an access that completes takes effect (R7). -/
def State.atCompletion (s : State) (b : BankNo) (kind : AccessKind) (d : Nat) : State := (s.reach d).completeBank b kind

theorem State.Completes.exec_eq (h : s.Completes b kind d e) :
    exec (.accessCompletion b ups) s =
      .next (((s.atCompletion b kind d).accessEffect e (s.bank b).oldChunks ups).completeEntry b e).settle := by
  have entry : (s.atCompletion b kind d).issuedOn b = some e := h.entry
  have runs : exec (.accessCompletion b ups) s = execAccessCompletion b ups s := rfl
  rw [runs, execAccessCompletion, State.event_running h.running, h.timer, h.access]
  dsimp only
  rw [if_pos h.state]
  have entry : ((s.reach d).completeBank b kind).issuedOn b = some e := h.entry
  rw [entry]
  rfl

theorem List.eq_mapIdx_of_positions {α : Type} {n : Nat} {kcs : List (Nat × α)} (positions : kcs.map Prod.fst = List.range n) :
    kcs = (kcs.map Prod.snd).mapIdx fun k c => (k, c) := by
  refine List.ext_getElem? fun i => ?_
  have first : (kcs.map Prod.fst)[i]? = (List.range n)[i]? := by rw [positions]
  have length : kcs.length = n := by simpa using congrArg List.length positions
  rw [List.getElem?_mapIdx, List.getElem?_map]
  cases at_i : kcs[i]? with
  | none => rfl
  | some kc =>
    obtain ⟨inside, rfl⟩ := List.getElem?_eq_some_iff.1 at_i
    have : (kcs[i]).1 = i := by simpa [inside, length ▸ inside] using first
    simp [Prod.ext_iff, this]

/-- R26: what a read of the whole block finds, as the statement's words have it. -/
theorem State.Reads.finds {kcs : List (Nat × Chunk)} {t : State} (h : s.Reads e ups (List.range e.size.chunks) kcs t) :
    s.Finds e ups (kcs.map Prod.snd) ∧ kcs.filterMap (readFault e) = readReports e (kcs.map Prod.snd) := by
  have pairs := List.eq_mapIdx_of_positions h.positions
  have length : kcs.length = e.size.chunks := by simpa using congrArg List.length h.positions
  refine ⟨⟨by simpa using length, fun k inside c stored kept => ?_⟩, ?_⟩
  · have at_k : k < kcs.length := length ▸ inside
    have position : (kcs[k]).1 = k := by
      have := congrArg (·[k]?) h.positions
      simpa [at_k, inside] using this
    have found := h.found kcs[k] (List.getElem_mem at_k) c (by rw [position]; exact stored) kept
    simp [at_k, found, position]
  · conv_lhs => rw [pairs]
    rfl

theorem State.readChunks_keeps (s : State) (e : Entry) (ups : List Upset) (ks : List Nat) :
    (s.readChunks e ups ks).2 =
      { s with
        draws := (s.readChunks e ups ks).2.draws
        array := (s.readChunks e ups ks).2.array
        mgmt := (s.readChunks e ups ks).2.mgmt } := by
  rw [State.readChunks_frame]

theorem State.accessEffect_read {olds : List (Option Chunk)} (read : e.kind = .read) :
    s.accessEffect e olds ups =
      (s.readChunks e ups (List.range e.size.chunks)).2.readDone e
        (s.readChunks e ups (List.range e.size.chunks)).1 := by
  unfold State.accessEffect
  rw [read]

/-- R114: the response unit at a read's completion, for a slot that the entry has reserved. -/
theorem State.readDone_eq {i : Fin 32} {o : SlotOwner} {discard : Bool} (slot : e.respSlot = some i)
    (reserved : s.resp.slots.get i = .reserved o discard) (chunks : List Chunk) :
    s.readDone e (chunks.map fun c => (c.checked, c.result)) =
      { s with resp :=
        if discard then { s.resp with slots := s.resp.slots.set i .free }
        else
          { slots := s.resp.slots.set i
              (.filled o (chunks.flatMap Chunk.checked) (chunks.map Chunk.result) (s.ren.records.get e.bank).lapse)
            orders := s.resp.orders.set o.requester ((s.resp.orders.get o.requester).map fun p =>
              if p.tag = o.tag ∧ p.state = .owed then
                { p with
                  state := .data (dataStatus (chunks.map Chunk.result) (s.ren.records.get e.bank).lapse) i
                    (badList o (chunks.map Chunk.result)) }
              else p) } } := by
  have results : (chunks.map fun c => (c.checked, c.result)).map Prod.snd = chunks.map Chunk.result := by simp
  have data : (chunks.map fun c => (c.checked, c.result)).flatMap Prod.fst = chunks.flatMap Chunk.checked := by
    simp [List.flatMap_map]
  unfold State.readDone
  rw [slot]
  dsimp only
  rw [reserved]
  cases discard with
  | true => rfl
  | false =>
    dsimp only
    rw [results, data]
    simp [State.readyPlace, State.setSlot, State.setOrder]

end

theorem Chunk.result_rows (c : Chunk) :
    let flipped : Nat → List Byte := fun pos => c.data.modify (pos / 8) fun x => x ^^^ (1#8 <<< (pos % 8))
    (c.poison = true → c.result = .poisoned ∧ c.checked = c.data) ∧
    (c.poison = false → c.check = .agrees → c.result = .clean ∧ c.checked = c.data) ∧
    (∀ pos, c.poison = false → c.check = .oneBit pos → c.result = .corrected ∧ c.checked = flipped pos) ∧
    (c.poison = false → c.check = .broken → c.result = .uncorrectable ∧ c.checked = c.data) := by
  intro flipped
  refine ⟨fun poison => ?_, fun poison check => ?_, fun pos poison check => ?_, fun poison check => ?_⟩
  · simp [Chunk.checked, Chunk.result, poison]
  · simp [Chunk.checked, Chunk.result, poison, check]
  · simp [Chunk.checked, Chunk.result, poison, check, flipBit, flipped]
  · simp [Chunk.checked, Chunk.result, poison, check]

theorem State.issuedOn_eq_some {s : State} {b : BankNo} {e : Entry} : s.issuedOn b = some e ↔ ∃ older younger,
    s.sched.list = older ++ e :: younger ∧ e.bank = b ∧ e.state = .issued ∧
      ∀ x ∈ older, ¬(x.bank = b ∧ x.state = .issued) := by
  rw [State.issuedOn, List.find?_eq_some_iff_append]
  simp only [Bool.and_eq_true, decide_eq_true_eq, Bool.not_eq_true', Bool.and_eq_false_iff, decide_eq_false_iff_not,
    ← not_and_or]
  constructor
  · rintro ⟨⟨bank, state⟩, older, younger, split, before⟩
    exact ⟨older, younger, split, bank, state, before⟩
  · rintro ⟨older, younger, split, bank, state, before⟩
    exact ⟨⟨bank, state⟩, older, younger, split, before⟩

/-- Settles O9: the rows of R26, the chunks of the block one by one, then the blocks that the completion changes. -/
theorem readCompletes : Obligations.ReadCompletes := by
  unfold Obligations.ReadCompletes
  refine ⟨fun c => ?_, fun s b e => State.issuedOn_eq_some, fun s b => rfl, ?_⟩
  · intro flipped
    obtain ⟨poisoned, clean, corrected, broken⟩ := c.result_rows
    refine ⟨poisoned, clean, corrected, broken, c.found_nil, fun u ups k => ?_⟩
    rw [Chunk.found_cons]
    cases u.kind <;> rfl
  · intro s b d e ups i o discard h read noSlot slot reserved
    obtain ⟨kcs, reads, values⟩ := (s.atCompletion b .read d).readChunks_reads e ups (List.nodup_range (n := e.size.chunks))
    obtain ⟨finds, reports⟩ := reads.finds
    have values : ((s.atCompletion b .read d).readChunks e ups (List.range e.size.chunks)).1 =
        (kcs.map Prod.snd).map fun c => (c.checked, c.result) := by rw [values, List.map_map]; rfl
    have keeps := (s.atCompletion b .read d).readChunks_keeps e ups (List.range e.size.chunks)
    have runs := h.exec_eq (ups := ups)
    rw [State.accessEffect_read read, values] at runs
    generalize ((s.atCompletion b .read d).readChunks e ups (List.range e.size.chunks)).2 = t at reads keeps runs
    obtain ⟨draws, array, mgmt, rfl⟩ : ∃ draws array mgmt,
      t = { s.atCompletion b .read d with draws := draws, array := array, mgmt := mgmt } := ⟨_, _, _, keeps⟩
    refine ⟨kcs.map Prod.snd, array, draws, finds, fun k out => ?_, fun k inside => ?_, ?_⟩
    · exact reads.outside k fun j mem same => out (Entry.mem_keys.2 ⟨j, List.mem_range.1 mem, same.symm⟩)
    · exact reads.inside k (List.mem_range.2 inside)
    · intro results lapse
      have mgmt_eq : mgmt = ((readReports e (kcs.map Prod.snd)).foldl State.report s).mgmt := by
        rw [← reports]
        exact reads.mgmt.trans (State.foldl_report_mgmt_congr (s := s.atCompletion b .read d) (u := s) rfl _)
      refine runs.trans (congrArg (fun u : State => Host.Outcome.next u.settle) ?_)
      rw [State.readDone_eq slot (by exact reserved), ← mgmt_eq]
      simp only [State.completeEntry, State.freeWriteSlot, noSlot, State.removeEntry, State.setList]
      rfl

end Sys2Proof.Machine
end

section
/-! PROOFS. The completion of a write or merge (O10). -/

namespace Sys2Proof.Machine

/-! ### one chunk of a write or merge (R25, R27) -/

section
variable {s t : State} {e : Entry} {w : WriteSlot} {olds : List (Option Chunk)} {ups : List Upset} {k : Nat}

/-- R27: the fault report of a chunk that is merged. -/
def mergeFault (e : Entry) (w : WriteSlot) (kc : Nat × Chunk) : Option Report :=
  if w.partialChunk kc.1 then
    match kc.2.result with
    | .clean => none
    | .corrected => some (.correctedData e.bank e.page (e.first + kc.1))
    | .uncorrectable | .poisoned => some (.mergePoison e.bank e.page (e.first + kc.1))
  else none

/-- R27: the old chunk that a merge uses, or a free value. -/
def State.chunkOld (s : State) (olds : List (Option Chunk)) (ups : List Upset) (k : Nat) : Chunk :=
  (s.orFree ((olds.getD k none).map fun c => c.found ups k)).1

/-- R25, R27: what a chunk holds after the write, where it held `stored` before it. -/
def WriteSlot.written (w : WriteSlot) (k : Nat) (old : Chunk) (stored : Option Chunk) : Option Chunk :=
  if (w.chunkEnables k).all id then some (Chunk.fresh ((w.data.drop (32 * k)).take 32) false)
  else if (w.chunkEnables k).any id then some (mergeChunk (w.chunkEnables k) ((w.data.drop (32 * k)).take 32) old)
  else stored

theorem State.chunkOld_eq {c : Chunk} (read : olds.getD k none = some c) : s.chunkOld olds ups k = c.found ups k := by
  rw [State.chunkOld, read]
  rfl

theorem State.writeChunk_find (s : State) (e : Entry) (w : WriteSlot) (olds : List (Option Chunk)) (ups : List Upset)
    (k x : Nat) : (s.writeChunk e w olds ups k).array.find x =
      if x = e.key k then w.written k (s.chunkOld olds ups k) (s.array.find x) else s.array.find x := by
  unfold State.writeChunk WriteSlot.written
  dsimp only
  split
  · exact Store.find_put_eq _ _ _ _
  · split
    · rw [State.mergeReport_frame, State.orFree_frame]
      exact Store.find_put_eq _ _ _ _
    · exact (ite_self _).symm

theorem State.writeChunk_mgmt (s : State) (e : Entry) (w : WriteSlot) (olds : List (Option Chunk)) (ups : List Upset)
    (k : Nat) : (s.writeChunk e w olds ups k).mgmt =
      ((mergeFault e w (k, s.chunkOld olds ups k)).toList.foldl State.report s).mgmt := by
  unfold State.writeChunk mergeFault
  dsimp only
  by_cases all : (w.chunkEnables k).all id = true
  · rw [if_pos all, if_neg (by simp [WriteSlot.partialChunk, all])]
    rfl
  · rw [if_neg all]
    by_cases any : (w.chunkEnables k).any id = true
    · rw [if_pos any, if_pos (by simp only [WriteSlot.partialChunk, any, all]; rfl)]
      unfold State.mergeReport State.chunkOld
      generalize found : s.orFree ((olds.getD k none).map fun c => c.found ups k) = x
      have same (c : Chunk) : (x.2.storeChunk e.bank e.page (e.first + k) c).mgmt = s.mgmt := by
        rw [← found, State.orFree_frame]
        rfl
      cases x.1.result with
      | clean => exact same _
      | corrected | uncorrectable | poisoned => exact State.report_mgmt_congr (same _) _
    · rw [if_neg any, if_neg (by simp only [WriteSlot.partialChunk, any]; simp)]
      rfl

/-! ### the chunks of a write or merge -/

/-- R25, R27: the old chunks `kcs` of a write or merge in order, with their positions, and the state that it leaves. -/
structure State.WritesBlock (s : State) (e : Entry) (w : WriteSlot) (olds : List (Option Chunk)) (ups : List Upset)
    (ks : List Nat) (kcs : List (Nat × Chunk)) (t : State) : Prop where
  positions : kcs.map Prod.fst = ks
  found : ∀ kc ∈ kcs, ∀ c, olds.getD kc.1 none = some c → kc.2 = c.found ups kc.1
  outside : ∀ x, (∀ k ∈ ks, x ≠ e.key k) → t.array.find x = s.array.find x
  inside : ∀ kc ∈ kcs, t.array.find (e.key kc.1) = w.written kc.1 kc.2 (s.array.find (e.key kc.1))
  mgmt : t.mgmt = ((kcs.filterMap (mergeFault e w)).foldl State.report s).mgmt

theorem State.writeChunks_writes (s : State) (e : Entry) (w : WriteSlot) (olds : List (Option Chunk)) (ups : List Upset)
    {ks : List Nat} (apart : ks.Nodup) : ∃ kcs, s.WritesBlock e w olds ups ks kcs (s.writeChunks e w olds ups ks) := by
  induction ks generalizing s with
  | nil => exact ⟨[], rfl, by simp, fun _ _ => rfl, by simp, rfl⟩
  | cons k ks ih =>
    obtain ⟨new, apart⟩ := List.nodup_cons.1 apart
    obtain ⟨kcs, writes⟩ := ih (s.writeChunk e w olds ups k) apart
    have elsewhere {x : Nat} (other : x ≠ e.key k) : (s.writeChunk e w olds ups k).array.find x = s.array.find x := by
      rw [State.writeChunk_find, if_neg other]
    have ne {j : Nat} (mem : j ∈ ks) : e.key j ≠ e.key k := fun same => new (Entry.key_inj.1 same ▸ mem)
    have listed {kc : Nat × Chunk} (mem : kc ∈ kcs) : kc.1 ∈ ks := writes.positions ▸ List.mem_map_of_mem mem
    refine ⟨(k, s.chunkOld olds ups k) :: kcs, ?_, ?_, fun x out => ?_, ?_, ?_⟩
    · rw [List.map_cons, writes.positions]
    · rintro kc mem c read
      rcases List.mem_cons.1 mem with rfl | mem
      · exact State.chunkOld_eq read
      · exact writes.found kc mem c read
    · exact (writes.outside x fun j mem => out j (List.mem_cons_of_mem _ mem)).trans (elsewhere (out k (by simp)))
    · rintro kc mem
      rcases List.mem_cons.1 mem with rfl | mem
      · refine (writes.outside _ fun i mem same => ne mem same.symm).trans ?_
        rw [State.writeChunk_find, if_pos rfl]
      · refine (writes.inside kc mem).trans ?_
        rw [elsewhere (ne (listed mem))]
    · refine writes.mgmt.trans ?_
      refine (State.foldl_report_mgmt_congr (State.writeChunk_mgmt s e w olds ups k) _).trans ?_
      rw [← List.foldl_append]
      congr 2
      cases fault : mergeFault e w (k, s.chunkOld olds ups k) <;> simp [fault]

/-- R27: the old chunks of a write or merge of the whole block, as the statement's words have them. -/
theorem State.WritesBlock.chunks {kcs : List (Nat × Chunk)} {b : BankNo} {u : State}
    (h : u.WritesBlock e w (s.bank b).oldChunks ups (List.range e.size.chunks) kcs t) :
    s.FoundAtStart b e ups (kcs.map Prod.snd) ∧ kcs.filterMap (mergeFault e w) = mergeReports e w (kcs.map Prod.snd) ∧
      ∀ k < e.size.chunks, ∃ old, (kcs.map Prod.snd)[k]? = some old ∧
        t.array.find (e.key k) = w.written k old (u.array.find (e.key k)) := by
  have pairs := List.eq_mapIdx_of_positions h.positions
  have length : kcs.length = e.size.chunks := by simpa using congrArg List.length h.positions
  have at_k {k : Nat} (inside : k < e.size.chunks) : ∃ old, (k, old) ∈ kcs ∧ (kcs.map Prod.snd)[k]? = some old := by
    have inside' : k < kcs.length := length ▸ inside
    have position : (kcs[k]).1 = k := by
      have := congrArg (·[k]?) h.positions
      simpa [inside', inside] using this
    refine ⟨(kcs[k]).2, ?_, by simp [inside']⟩
    have mem := List.getElem_mem inside'
    rwa [← Prod.eta kcs[k], position] at mem
  refine ⟨⟨by simpa using length, fun k inside c read => ?_⟩, ?_, fun k inside => ?_⟩
  · obtain ⟨old, mem, value⟩ := at_k inside
    exact value.trans (congrArg some (h.found (k, old) mem c (by simp [List.getD_eq_getElem?_getD, read])))
  · conv_lhs => rw [pairs]
    rfl
  · obtain ⟨old, mem, value⟩ := at_k inside
    exact ⟨old, value, h.inside (k, old) mem⟩

end

/-! ### what a chunk holds after the write (R25, R27) -/

section
variable {w : WriteSlot} {k : Nat} {old : Chunk} {stored : Option Chunk}

section
variable (len : w.enables.length = 256) (small : k < 8)
include len small

theorem WriteSlot.written_full (full : ∀ n < 32, w.enables.getD (32 * k + n) false = true) :
    w.written k old stored = some { data := (w.data.drop (32 * k)).take 32, check := .agrees, poison := false } :=
  if_pos ((WriteSlot.all_enabled_iff len small).2 full)

theorem WriteSlot.written_off (off : ∀ n < 32, w.enables.getD (32 * k + n) false = false) : w.written k old stored = stored := by
  have none : ¬(w.chunkEnables k).any id = true := by
    rw [WriteSlot.any_enabled_iff len small]
    rintro ⟨n, hn, on⟩
    rw [off n hn] at on
    cases on
  have notAll : ¬(w.chunkEnables k).all id = true := by
    rw [WriteSlot.all_enabled_iff len small]
    intro on
    have := (off 0 (by decide)).symm.trans (on 0 (by decide))
    cases this
  rw [WriteSlot.written, if_neg notAll, if_neg none]

end

theorem WriteSlot.written_partial (partly : w.partialChunk k = true) :
    w.written k old stored = some (mergeChunk (w.chunkEnables k) ((w.data.drop (32 * k)).take 32) old) := by
  simp only [WriteSlot.partialChunk, Bool.and_eq_true, Bool.not_eq_true'] at partly
  obtain ⟨any, all⟩ := partly
  rw [WriteSlot.written, if_neg (by rw [all]; simp), if_pos any]

theorem mergeChunk_getD {n : Nat} (hn : n < 32) :
    (mergeChunk (w.chunkEnables k) ((w.data.drop (32 * k)).take 32) old).data.getD n 0 =
      if w.enables.getD (32 * k + n) false then w.data.getD (32 * k + n) 0 else old.checked.getD n 0 := by
  have new : ((w.data.drop (32 * k)).take 32).getD n 0 = w.data.getD (32 * k + n) 0 := by
    simp [List.getD_eq_getElem?_getD, hn]
  rw [← w.chunkEnables_getD k hn, ← new]
  simp [mergeChunk, Chunk.fresh, List.getD_eq_getElem?_getD, hn]

theorem mergeChunk_poison {en : List Bool} {new : List Byte} :
    (mergeChunk en new old).poison = true ↔ old.result = .uncorrectable ∨ old.result = .poisoned := CheckResult.bad_iff

end

/-- R27: the result is POISONED where a chunk of the block is partial and its old chunk is bad. -/
theorem State.writeResult_poisoned {t : State} {e : Entry} {w : WriteSlot} {olds : List Chunk} {find : Nat → Option Chunk}
    (inside : ∀ k < e.size.chunks, ∃ old, olds[k]? = some old ∧ t.array.find (e.key k) = w.written k old (find k)) :
    t.writeResult e w = .poisoned ↔ ∃ k < e.size.chunks, ∃ old, olds[k]? = some old ∧ w.partialChunk k = true ∧
      (old.result = .uncorrectable ∨ old.result = .poisoned) := by
  have each {k : Nat} (hk : k < e.size.chunks) : (w.partialChunk k &&
      ((t.array.find (e.key k)).map Chunk.poison).getD false) = true ↔ ∃ old, olds[k]? = some old ∧
        w.partialChunk k = true ∧ (old.result = .uncorrectable ∨ old.result = .poisoned) := by
    obtain ⟨old, value, holds⟩ := inside k hk
    rw [Bool.and_eq_true, holds]
    constructor
    · rintro ⟨partly, poison⟩
      rw [WriteSlot.written_partial partly] at poison
      exact ⟨old, value, partly, mergeChunk_poison.1 poison⟩
    · rintro ⟨old', value', partly, bad⟩
      cases value.symm.trans value'
      rw [WriteSlot.written_partial partly]
      exact ⟨partly, mergeChunk_poison.2 bad⟩
  have result : t.writeResult e w = .poisoned ↔ (List.range e.size.chunks).any (fun k => w.partialChunk k &&
      ((t.array.find (e.key k)).map Chunk.poison).getD false) = true := by
    unfold State.writeResult
    split
    next any => exact iff_of_true rfl any
    next any => exact iff_of_false (by simp) any
  rw [result, List.any_eq_true]
  constructor
  · rintro ⟨k, mem, h⟩
    exact ⟨k, List.mem_range.1 mem, (each (List.mem_range.1 mem)).1 h⟩
  · rintro ⟨k, hk, h⟩
    exact ⟨k, List.mem_range.2 hk, (each hk).2 h⟩

/-! ### ACCESS_COMPLETION of a write or merge (R27, R119) -/

section
variable {s : State} {b : BankNo} {kind : AccessKind} {e : Entry} {w : WriteSlot} {j : Fin 32}
  {olds : List (Option Chunk)} {ups : List Upset}

theorem State.writeChunks_keeps (s : State) (e : Entry) (w : WriteSlot) (olds : List (Option Chunk)) (ups : List Upset)
    (ks : List Nat) :
    s.writeChunks e w olds ups ks =
      { s with
        draws := (s.writeChunks e w olds ups ks).draws
        array := (s.writeChunks e w olds ups ks).array
        mgmt := (s.writeChunks e w olds ups ks).mgmt } := by
  rw [State.writeChunks_frame]

theorem State.accessEffect_write (write : e.kind ≠ .read) (slot : e.writeSlot = some j) (held : s.adm.slots.get j = some w) :
    s.accessEffect e olds ups =
      (s.writeChunks e w olds ups (List.range e.size.chunks)).writeDone e
        ((s.writeChunks e w olds ups (List.range e.size.chunks)).writeResult e w) := by
  have own : s.writeSlotOf e = some w := by rw [State.writeSlotOf, slot]; exact held
  unfold State.accessEffect
  split
  next read => exact absurd read write
  next => rw [own]

/-- R7, R8: the array port at the completion of a write or merge. -/
theorem State.atCompletion_write (write : kind ≠ .read) (d : Nat) :
    s.atCompletion b kind d =
      { s with
        now := max s.now d
        port := { s.port with
          banks := s.port.banks.set b
            { s.bank b with
              state := .opened, access := none, tAccess := none, oldChunks := [], recoveryMet := false
              tWrec := some (max s.now d + s.timing.tWrec) }
          direction := .write
          lastAccess := some (max s.now d) } } := by
  cases kind with
  | read => exact absurd rfl write
  | write => rfl
  | merge => rfl

end

/-- Settles O10: the chunks of the block one by one, then the blocks that the completion changes. -/
theorem writeCompletes : Obligations.WriteCompletes := by
  unfold Obligations.WriteCompletes
  refine ⟨fun w k len small => WriteSlot.partialChunk_iff len small, ?_⟩
  intro s b d e kind ups j w h writes write slot held len on
  have small {k : Nat} (inside : k < e.size.chunks) : k < 8 := inside.trans_le e.size.chunks_le
  obtain ⟨kcs, block⟩ := (s.atCompletion b kind d).writeChunks_writes e w (s.bank b).oldChunks ups
    (List.nodup_range (n := e.size.chunks))
  have keeps := (s.atCompletion b kind d).writeChunks_keeps e w (s.bank b).oldChunks ups (List.range e.size.chunks)
  have runs := h.exec_eq (ups := ups)
  rw [State.accessEffect_write write slot (by exact held)] at runs
  generalize (s.atCompletion b kind d).writeChunks e w (s.bank b).oldChunks ups (List.range e.size.chunks) = t
    at block keeps runs
  obtain ⟨draws, array, mgmt, rfl⟩ : ∃ draws array mgmt,
    t = { s.atCompletion b kind d with draws := draws, array := array, mgmt := mgmt } := ⟨_, _, _, keeps⟩
  obtain ⟨found, reports, inside⟩ := block.chunks
  have mgmt_eq : mgmt = ((mergeReports e w (kcs.map Prod.snd)).foldl State.report s).mgmt := by
    rw [← reports]
    exact block.mgmt.trans (State.foldl_report_mgmt_congr (s := s.atCompletion b kind d) (u := s) rfl _)
  refine ⟨kcs.map Prod.snd, array, draws, found, fun k out => ?_, fun k hk => ?_, ?_⟩
  · exact block.outside k fun i mem same => out (Entry.mem_keys.2 ⟨i, List.mem_range.1 mem, same.symm⟩)
  · intro now
    obtain ⟨old, value, holds⟩ := inside k hk
    have holds : now = w.written k old (s.array.find (e.key k)) := holds
    refine ⟨fun full => ?_, fun off => ?_, fun some_on some_off => ?_⟩
    · rw [holds, WriteSlot.written_full len (small hk) full]
    · rw [holds, WriteSlot.written_off len (small hk) off]
      rfl
    · rw [WriteSlot.written_partial ((WriteSlot.partialChunk_iff len (small hk)).2 ⟨some_on, some_off⟩)] at holds
      exact ⟨old, _, value, holds, rfl, mergeChunk_length _ _ _, mergeChunk_poison, fun n hn => mergeChunk_getD hn⟩
  · intro poisoned
    have result := State.writeResult_poisoned inside
    generalize State.writeResult _ e w = st at runs result
    refine ⟨st, result.trans ?_, runs.trans (congrArg (fun u : State => Host.Outcome.next u.settle) ?_)⟩
    · refine exists_congr fun k => and_congr_right fun hk => exists_congr fun old => and_congr_right fun _ => ?_
      rw [WriteSlot.partialChunk_iff len (small hk), and_assoc]
    · rw [← mgmt_eq, State.atCompletion_write writes]
      simp only [State.completeEntry, State.freeWriteSlot, slot, State.removeEntry, State.setList, State.writeDone]
      by_cases tag : e.tagHeld = true
      · simp [tag, State.readyPlace, State.setOrder]
      · simp [tag]

end Sys2Proof.Machine
end
